-- ==== Sys2Proof/Word.lean ====
section
/-! DEFINITION. The byte and the word of the machine, their plainest arithmetic, and the names of the operand codes
that the encoding tables of spec/30_encoding.md use (R94 to R98). -/

namespace Sys2Proof

/-- An 8-bit value, `u8` of R11. -/
abbrev Byte := BitVec 8

/-- A 16-bit value: a register pair, SP, PC or an address (R5). -/
abbrev Word := BitVec 16

/-- `{hi, lo}` of R11: the first byte is bits 15:8. -/
abbrev joinBytes (hi lo : Byte) : Word := hi ++ lo

/-- `w[15:8]` (R21). -/
abbrev hiByte (w : Word) : Byte := w.extractLsb' 8 8

/-- `w[7:0]` (R21). -/
abbrev loByte (w : Word) : Byte := w.extractLsb' 0 8

/-- The seven 8-bit registers an instruction can name (R94; F cannot be named, R121). -/
inductive Reg8 where
  | b | c | d | e | h | l | a
deriving DecidableEq, Repr

/-- The 8-bit operand of code table `r` (R94): a register, or the byte of memory at address HL (code 6). -/
inductive Operand8 where
  | reg (r : Reg8)
  | atHL
deriving DecidableEq, Repr

/-- Pair code `dd` (R95). -/
inductive Pair where
  | bc | de | hl | sp
deriving DecidableEq, Repr

/-- Pair code `qq` of PUSH and POP (R96). -/
inductive StackPair where
  | bc | de | hl | af
deriving DecidableEq, Repr

/-- Condition code `cc` (R97). -/
inductive Cond where
  | nz | z | nc | c
deriving DecidableEq, Repr

/-- The eight accumulator operations (R98). -/
inductive AluOp where
  | add | adc | sub | sbc | and | xor | or | cp
deriving DecidableEq, Repr

/-- The eight rotate and shift operations of the extended table (R98). -/
inductive RotOp where
  | rlc | rrc | rl | rr | sla | sra | swap | srl
deriving DecidableEq, Repr

/-- The four address forms of the accumulator's indirect loads and stores, in the order of field p (R100, z = 2). -/
inductive IndirectAddr where
  | bc | de | hlInc | hlDec
deriving DecidableEq, Repr

end Sys2Proof
end

