-- ==== Sys2Proof/Config.lean ====
section
/-! DEFINITION. What is fixed for this hardware (R5) and its open parameters (R6). -/

namespace Sys2Proof.Config

/-- `T_PER_M`: clock cycles per machine cycle (R5, R13). -/
abbrev tPerM : Nat := 4

/-- `CLOCKS_PER_LINE`, in machine cycles (R5). -/
abbrev clocksPerLine : Nat := 114

/-- `VISIBLE_LINES`: the last visible value of `vertical` (R5). -/
abbrev visibleLines : Nat := 144

/-- `LINES_PER_FRAME` (R5). -/
abbrev linesPerFrame : Nat := 154

/-- `FRAME_CLOCKS` = 114 x 154 = 17,556 machine cycles (R5). -/
abbrev frameClocks : Nat := 17556

/-- `OAM_END`: threshold from OAM scan to pixel transfer (R5). -/
abbrev oamEnd : Nat := 21

/-- `XFER_END`: threshold from pixel transfer to horizontal blank (R5). -/
abbrev xferEnd : Nat := 64

/-- `INT_DISPATCH_T`: clock cycles charged for an interrupt dispatch (R5, R254). -/
abbrev intDispatchT : Nat := 0

/-- `HALT_IDLE_T`: clock cycles of one idle step while halted (R5, R243). -/
abbrev haltIdleT : Nat := 4

/-- JOYP (R38): the one register, beside IF, that the host's turn may write (R246). -/
abbrev joypAddr : Word := 0xFF00

/-- IF, the interrupt-flag byte (R39). -/
abbrev ifAddr : Word := 0xFF0F

/-- IE, the interrupt-enable byte (R40). -/
abbrev ieAddr : Word := 0xFFFF

/-- LCDC, LCD control (R41). -/
abbrev lcdcAddr : Word := 0xFF40

/-- STAT, LCD status (R42). -/
abbrev statAddr : Word := 0xFF41

/-- LY, current scanline (R43). -/
abbrev lyAddr : Word := 0xFF44

/-- The first interrupt vector; the vector of source i is `0x0040 + 8 * i` (R250). -/
abbrev vectorBase : Word := 0x0040

/-- The entry point after reset (R301, R304). -/
abbrev resetPc : Word := 0x0000

/-- How many byte addresses there are (R60). -/
abbrev addressSpaceSize : Nat := 65536

/-- What an address that memory does not list reads as. DESIGN CHOICE, log entry 1: R303 leaves the bytes the loader
did not write unspecified and says "a model may take them as zero". Unsafe. -/
abbrev unlistedByte : Byte := 0

/-- The boot image's size (R5, R305). -/
abbrev bootImageSize : Nat := 256

/-- The boot image's last byte, which the loader checks (R5, R305). -/
abbrev bootSentinel : Byte := 0x50

/-- The default that R278 gives for the open parameter `BG_MAP_BASE`. `State.reset` alone takes it: log entry 6. -/
abbrev bgMapBase : Word := 0x9800

/-- The default that R278 gives for the open parameter `TILE_DATA_BASE`. `State.reset` alone takes it: log entry 6. -/
abbrev tileDataBase : Word := 0x8000

/-- `SHADE` (R6, R278): the colour of a 2-bit palette index, an open parameter. No value is fixed: nothing can be
proved about the colours. Log entry 7. -/
opaque shade : BitVec 2 → Nat

end Sys2Proof.Config
end

