-- ==== Sys2Proof/Machine/State.lean ====
section
/-! DEFINITION. The machine's whole state as plain data (spec/10_state.md), why a step can stop, and the state after
reset (R47, R301 to R303). -/

namespace Sys2Proof.Machine

/-- `run_state` (R28). -/
inductive RunState where
  | running | halted | stopped | faulted
deriving DecidableEq, Repr

/-- The record of an undefined instruction (R29). -/
structure FaultRecord where
  opcode : Byte
  addr : Word
deriving DecidableEq, Repr

/-- What the host does in one turn after a step (R246). -/
inductive HostTurn where
  /-- The turn samples the `running` condition as false: "no further step happens; the state is left as the last step
  made it". -/
  | stop
  /-- The turn samples it as true and collects input, the most that R246 admits for `HOST_INPUT`: it may store a byte
  at JOYP, `0xFF00`, and it may set IF bit 4 (Joypad). -/
  | collect (joyp : Option Byte) (raiseJoypad : Bool)
deriving DecidableEq, Repr

/-- `BG_MAP_BASE` and `TILE_DATA_BASE`, open parameters of R6 and R278. -/
structure BackgroundBases where
  map : Word
  tiles : Word
deriving DecidableEq, Repr

/-- The state of the whole block. Memory and the pixel buffer are lists of cells in one canonical form (keys strictly
rising, no cell equal to what an unlisted key reads as). -/
structure State where
  /-- accumulator (R20) -/
  a : Byte
  /-- flag register, eight bits of storage (R22, R23) -/
  f : Byte
  b : Byte
  c : Byte
  d : Byte
  e : Byte
  h : Byte
  l : Byte
  /-- stack pointer (R26) -/
  sp : Word
  /-- program counter (R25) -/
  pc : Word
  /-- interrupt master enable (R27) -/
  ime : Bool
  /-- run-state (R28) -/
  runState : RunState
  /-- fault record, valid only in Faulted (R29) -/
  fault : Option FaultRecord
  /-- `cycles`, the cost in clock cycles that the instruction sets for the step to read (R12, R240) -/
  cycles : Nat
  /-- cost of the most recent step in clock cycles (R30) -/
  tStep : Nat
  /-- cost of the most recent step in machine cycles (R30) -/
  mStep : Nat
  /-- running sum of clock cycles, without a bound (R30) -/
  tTotal : Nat
  /-- running sum of machine cycles (R30) -/
  mTotal : Nat
  /-- machine cycles elapsed in the current frame (R31) -/
  internalClock : Nat
  /-- `prev_horizontal_clock` (R32) -/
  prevHorizontalClock : Nat
  /-- `prev_vertical_clock` (R32) -/
  prevVerticalClock : Nat
  /-- whether the previous video tick found the display on (R33) -/
  displayOn : Bool
  /-- `FB`, the pixel buffer (R35): the pixel of row y, column x has key 256 * y + x; an unlisted pixel is index 0 -/
  fb : List (Nat × BitVec 2)
  /-- where the frame render finds the map and the tiles: an open parameter that nothing writes (R6, R278) -/
  bgBases : BackgroundBases
  /-- `M`, the address space (R36), hardware registers included (R37, R38) -/
  mem : List Host.Cell
  /-- the `running` condition the host samples between steps (R246, R302) -/
  running : Bool
  /-- `HOST_INPUT` as data: the host's coming turns, the next one first; none left means the identity (R246) -/
  hostInput : List HostTurn
  /-- `cycles_out` of the most recent step; none when that step did not reach phase 3 (R247) -/
  cyclesOut : Option Nat
  /-- the frame-render event of the most recent step (R10, R276) -/
  frameEvent : Bool
deriving DecidableEq, Repr

/-- Why a step stops with a fault. -/
inductive Fault where
  /-- Raised by `step` in run-state Faulted, which an undefined opcode enters: "There is no step in Faulted" (R245).
  Safe: the hardware takes no step either; the record is in `State.fault`. -/
  | undefinedInstruction
deriving DecidableEq, Repr

/-- Why there is no next state although nothing went wrong in the machine. -/
inductive Refusal where
  /-- Raised by an arm of `exec` whose instruction has no meaning yet. Safe. No arm is left with it. -/
  | notModelled (mnemonic : String)
  /-- Raised by `step` in run-state Stopped: "There is no step in Stopped" and it is the one clean end of a run (R244).
  Safe: the hardware takes no step either. -/
  | stopped
  /-- Raised by `step` when the host has cleared the `running` condition: "no further step happens" (R246). Safe. -/
  | hostStopped
deriving DecidableEq, Repr

/-- `RESET_REGS`, the open parameter of R6 and R301. -/
structure ResetRegs where
  a : Byte
  f : Byte
  b : Byte
  c : Byte
  d : Byte
  e : Byte
  h : Byte
  l : Byte
  sp : Word
deriving DecidableEq, Repr

/-- The state right after reset, for every value of the open parameters of R6: `RESET_REGS`, `MEM0`, the content of
`FB`, the two base addresses of the background and `HOST_INPUT` (R47, R301, R302, R303). `SHADE` is a constant of Config.
`cycles` is no state of R47: log entry 3. -/
def State.resetWith (regs : ResetRegs) (mem0 : List Host.Cell) (fb0 : List (Nat × BitVec 2)) (bases : BackgroundBases)
    (input : List HostTurn) : State where
  a := regs.a
  f := regs.f
  b := regs.b
  c := regs.c
  d := regs.d
  e := regs.e
  h := regs.h
  l := regs.l
  sp := regs.sp
  pc := Config.resetPc
  ime := false
  runState := .running
  fault := none
  cycles := 0
  tStep := 0
  mStep := 0
  tTotal := 0
  mTotal := 0
  internalClock := 0
  prevHorizontalClock := 0
  prevVerticalClock := 0
  displayOn := false
  fb := fb0
  bgBases := bases
  mem := mem0
  running := true
  hostInput := input
  cyclesOut := none
  frameEvent := false

/-- All nine values zero: "A model that wants one concrete machine takes all nine values as zero" (R301).
DESIGN CHOICE, log entry 2. Unsafe. -/
def ResetRegs.zero : ResetRegs :=
  { a := 0, f := 0, b := 0, c := 0, d := 0, e := 0, h := 0, l := 0, sp := 0 }

/-- The defaults that R278 gives for the two base addresses. -/
def BackgroundBases.defaults : BackgroundBases := { map := Config.bgMapBase, tiles := Config.tileDataBase }

/-- The machine right after reset: `RESET_REGS` zero (log entry 2), nothing listed in memory (log entry 1), the pixel
buffer all index 0 (log entry 4), the default base addresses (log entry 6), no host input (R246's default). -/
def State.reset : State := State.resetWith ResetRegs.zero [] [] BackgroundBases.defaults []

end Sys2Proof.Machine
end

