-- ==== Sys2Proof/Machine/Ops.lean ====
section
/-! DEFINITION. The named operations over memory, registers and the stack (spec/20_memory.md, spec/10_state.md), the end
of an instruction, taking an interrupt, the undefined-instruction exception, and the return from an interrupt. -/

namespace Sys2Proof.Machine

/-- What executing an instruction, or a step, answers. -/
abbrev Result := Host.Outcome State Fault Refusal

/-! ## Cells: a list of (key, value) pairs in canonical form, where an unlisted key reads as `dflt` -/

/-- The value at key `k`. -/
def cellGet {w : Nat} (dflt : BitVec w) : List (Nat × BitVec w) → Nat → BitVec w
  | [], _ => dflt
  | cell :: rest, k => if cell.1 = k then cell.2 else cellGet dflt rest k

/-- The list without key `k`. -/
def cellErase {w : Nat} (l : List (Nat × BitVec w)) (k : Nat) : List (Nat × BitVec w) :=
  l.filter fun cell => cell.1 != k

/-- The list with the cell `(k, v)` put before the first larger key. -/
def cellInsert {w : Nat} (k : Nat) (v : BitVec w) : List (Nat × BitVec w) → List (Nat × BitVec w)
  | [] => [(k, v)]
  | cell :: rest => if k < cell.1 then (k, v) :: cell :: rest else cell :: cellInsert k v rest

/-- The list in which key `k` has the value `v`; a cell equal to the default is not listed. -/
def cellSet {w : Nat} (dflt : BitVec w) (l : List (Nat × BitVec w)) (k : Nat) (v : BitVec w) :
    List (Nat × BitVec w) :=
  if v = dflt then cellErase l k else cellInsert k v (cellErase l k)

/-- The canonical form: keys strictly rising, from `lo` on and below `bound`, and no cell equal to the default. -/
def cellsWf {w : Nat} (dflt : BitVec w) (bound : Nat) : Nat → List (Nat × BitVec w) → Bool
  | _, [] => true
  | lo, cell :: rest =>
    decide (lo ≤ cell.1) && decide (cell.1 < bound) && decide (cell.2 ≠ dflt) && cellsWf dflt bound (cell.1 + 1) rest

/-! ## The address space -/

/-- `M[addr]` (R36, R62). -/
def Memory.read (m : List Host.Cell) (addr : Word) : Byte := cellGet Config.unlistedByte m addr.toNat

/-- `M[addr] <- v` (R63). -/
def Memory.write (m : List Host.Cell) (addr : Word) (v : Byte) : List Host.Cell :=
  cellSet Config.unlistedByte m addr.toNat v

/-- Memory is in canonical form: addresses strictly rising and inside the address space (R60), no cell equal to what an
unlisted address reads as. -/
def Memory.wf (m : List Host.Cell) : Bool := cellsWf Config.unlistedByte Config.addressSpaceSize 0 m

/-- `MemRead(addr, 1)` (R62): it never fails and has no side effect. -/
def State.read8 (s : State) (addr : Word) : Byte := Memory.read s.mem addr

/-- `MemWrite(addr, 1, v)` (R63): it never fails, at any address. -/
def State.write8 (s : State) (addr : Word) (v : Byte) : State := { s with mem := Memory.write s.mem addr v }

/-- `MemRead(addr, 2)`, little-endian, `addr + 1` modulo 2^16 (R64, R66). -/
def State.read16 (s : State) (addr : Word) : Word := joinBytes (s.read8 (addr + 1)) (s.read8 addr)

/-- `MemWrite(addr, 2, v)`: the low byte at `addr`, then the high byte at `addr + 1` modulo 2^16 (R65, R66). -/
def State.write16 (s : State) (addr : Word) (v : Word) : State :=
  (s.write8 addr (loByte v)).write8 (addr + 1) (hiByte v)

/-- `SetFlag(addr, mask)` (R67). -/
def State.setFlag (s : State) (addr : Word) (mask : Byte) : State := s.write8 addr (s.read8 addr ||| mask)

/-- `ClearFlag(addr, mask)` (R67). -/
def State.clearFlag (s : State) (addr : Word) (mask : Byte) : State := s.write8 addr (s.read8 addr &&& ~~~mask)

/-! ## The register file -/

/-- `r8[i]` (R12, R94). -/
def State.get8 (s : State) : Reg8 → Byte
  | .b => s.b
  | .c => s.c
  | .d => s.d
  | .e => s.e
  | .h => s.h
  | .l => s.l
  | .a => s.a

/-- `r8[i] <- v`. -/
def State.set8 (s : State) (r : Reg8) (v : Byte) : State :=
  match r with
  | .b => { s with b := v }
  | .c => { s with c := v }
  | .d => { s with d := v }
  | .e => { s with e := v }
  | .h => { s with h := v }
  | .l => { s with l := v }
  | .a => { s with a := v }

/-- `AF = {A, F}` (R21). -/
def State.af (s : State) : Word := joinBytes s.a s.f

/-- `BC = {B, C}` (R21). -/
def State.bc (s : State) : Word := joinBytes s.b s.c

/-- `DE = {D, E}` (R21). -/
def State.de (s : State) : Word := joinBytes s.d s.e

/-- `HL = {H, L}` (R21). -/
def State.hl (s : State) : Word := joinBytes s.h s.l

/-- Writing HL sets H to `v[15:8]` and L to `v[7:0]` (R21). -/
def State.setHL (s : State) (v : Word) : State := { s with h := hiByte v, l := loByte v }

/-- `r16[i]`, table `dd` (R95). -/
def State.getPair (s : State) : Pair → Word
  | .bc => s.bc
  | .de => s.de
  | .hl => s.hl
  | .sp => s.sp

/-- `r16[i] <- v`, table `dd` (R21, R95). -/
def State.setPair (s : State) (p : Pair) (v : Word) : State :=
  match p with
  | .bc => { s with b := hiByte v, c := loByte v }
  | .de => { s with d := hiByte v, e := loByte v }
  | .hl => s.setHL v
  | .sp => { s with sp := v }

/-- The pair that PUSH stores, table `qq` (R96). -/
def State.getStackPair (s : State) : StackPair → Word
  | .bc => s.bc
  | .de => s.de
  | .hl => s.hl
  | .af => s.af

/-- The pair that POP loads, table `qq` (R96); all eight bits of F for AF (R156). -/
def State.setStackPair (s : State) (p : StackPair) (v : Word) : State :=
  match p with
  | .bc => { s with b := hiByte v, c := loByte v }
  | .de => { s with d := hiByte v, e := loByte v }
  | .hl => s.setHL v
  | .af => { s with a := hiByte v, f := loByte v }

/-! ## The stack -/

/-- `Push16(v)`: SP decreases by 2 first, then the word is stored (R68). -/
def State.push16 (s : State) (v : Word) : State := ({ s with sp := s.sp - 2 }).write16 (s.sp - 2) v

/-- The word `Pop16()` returns (R69). -/
def State.popValue (s : State) : Word := s.read16 s.sp

/-- The state after `Pop16()` (R69). -/
def State.popped (s : State) : State := { s with sp := s.sp + 2 }

/-! ## The end of an instruction -/

/-- `pc <- target; cycles <- n` (R12). -/
def State.goto (s : State) (target : Word) (n : Nat) : State := { s with pc := target, cycles := n }

/-- `pc <- next; cycles <- n`, with `next = pc0 + len` modulo 2^16 (R12). -/
def State.retire (s : State) (len : Word) (n : Nat) : State := s.goto (s.pc + len) n

/-! ## Exceptions -/

/-- Dispatch of interrupt source `i`, 0 to 4 (R254): push the pc, go to the vector `0x0040 + 8 * i`, clear IME, clear
the source's IF bit, in this order. Nothing else is saved. -/
def State.takeInterrupt (s : State) (i : Nat) : State :=
  let pushed := s.push16 s.pc
  let vectored := { pushed with pc := Config.vectorBase + 8 * BitVec.ofNat 16 i, ime := false }
  vectored.clearFlag Config.ifAddr (1 <<< i)

/-- `raise UndefinedInstruction(op)` (R262): record the opcode and its address, enter Faulted. The pc stays, and no
register, flag or memory byte changes. -/
def State.raiseUndefined (s : State) (op : Byte) : State :=
  { s with fault := some { opcode := op, addr := s.pc }, runState := .faulted }

/-- The return from an interrupt (R220, R258): `pc <- Pop16(); IME <- 1`. Nothing else is restored. -/
def State.returnFromInterrupt (s : State) : State := { s.popped with pc := s.popValue, ime := true }

end Sys2Proof.Machine
end

