-- ==== Sys2Proof/Machine/Flags.lean ====
section
/-! DEFINITION. The flag bits of F (R22, R23) and every result and flag computation of the instruction rules, as
functions of plain values. -/

namespace Sys2Proof.Machine

/-- The four flags a computation leaves (R22). -/
structure Flags where
  z : Bool
  n : Bool
  h : Bool
  c : Bool
deriving DecidableEq, Repr

/-- `Z`, F[7] (R22). -/
def State.flagZ (s : State) : Bool := s.f.getLsbD 7

/-- `N`, F[6] (R22). -/
def State.flagN (s : State) : Bool := s.f.getLsbD 6

/-- `HF`, F[5] (R22). -/
def State.flagH (s : State) : Bool := s.f.getLsbD 5

/-- `CF`, F[4] (R22). -/
def State.flagC (s : State) : Bool := s.f.getLsbD 4

/-- F with bits 7:4 replaced and bits 3:0 kept (R12, R23). -/
def packFlags (fl : Flags) (f : Byte) : Byte :=
  BitVec.ofBool fl.z ++ BitVec.ofBool fl.n ++ BitVec.ofBool fl.h ++ BitVec.ofBool fl.c ++ f.extractLsb' 0 4

/-- `flags <- (z, n, h, c)`: F[3:0] unchanged (R12, R23). -/
def State.setFlags (s : State) (fl : Flags) : State := { s with f := packFlags fl s.f }

/-- `v[3:0]` as a natural number. -/
def lowNibble (v : Byte) : Nat := (v.extractLsb' 0 4).toNat

/-- `sext_16(v)` (R11). -/
def signExtend16 (v : Byte) : Word := v.signExtend 16

/-! ## 8-bit arithmetic and logic -/

/-- `A + x + cin` and its flags (R171 with cin = 0, R172). -/
def addBytes (a x : Byte) (cin : Bool) : Byte × Flags :=
  let sum := a.toNat + x.toNat + cin.toNat
  let res := BitVec.ofNat 8 sum
  (res, { z := res == 0, n := false, h := decide (lowNibble a + lowNibble x + cin.toNat > 0x0F), c := decide (sum > 0xFF) })

/-- `A - x - cin` and its flags (R173 and R178 with cin = 0, R174). -/
def subBytes (a x : Byte) (cin : Bool) : Byte × Flags :=
  let res := a - x - BitVec.ofNat 8 (cin.toNat)
  (res, { z := res == 0, n := true, h := decide (lowNibble a < lowNibble x + cin.toNat),
          c := decide (a.toNat < x.toNat + cin.toNat) })

/-- The result and flags of an accumulator operation; for CP the result is compared and not written (R171 to R178). -/
def aluResult (op : AluOp) (a x : Byte) (cin : Bool) : Byte × Flags :=
  match op with
  | .add => addBytes a x false
  | .adc => addBytes a x cin
  | .sub => subBytes a x false
  | .sbc => subBytes a x cin
  | .and => (a &&& x, { z := (a &&& x) == 0, n := false, h := true, c := false })
  | .xor => (a ^^^ x, { z := (a ^^^ x) == 0, n := false, h := false, c := false })
  | .or => (a ||| x, { z := (a ||| x) == 0, n := false, h := false, c := false })
  | .cp => subBytes a x false

/-- `pre + 1` and the flags of INC; the carry is the one before (R162). -/
def incByte (pre : Byte) (cf : Bool) : Byte × Flags :=
  (pre + 1, { z := pre + 1 == 0, n := false, h := lowNibble pre == 0xF, c := cf })

/-- `pre - 1` and the flags of DEC; the carry is the one before (R163). -/
def decByte (pre : Byte) (cf : Bool) : Byte × Flags :=
  (pre - 1, { z := pre - 1 == 0, n := true, h := lowNibble pre == 0x0, c := cf })

/-- The value DAA adds to A or subtracts from it, and the carry it leaves (R179). -/
def daaAdjust (a : Byte) (n h c : Bool) : Byte × Bool :=
  match n with
  | false =>
    let low := h || decide (lowNibble a > 0x9)
    let high := c || decide (a.toNat > 0x99)
    ((if low then 0x06 else 0x00) ||| (if high then 0x60 else 0x00), high)
  | true => ((if h then 0x06 else 0x00) ||| (if c then 0x60 else 0x00), c)

/-- The result and flags of DAA (R179). -/
def daaResult (a : Byte) (n h c : Bool) : Byte × Flags :=
  let adj := daaAdjust a n h c
  let res := if n then a - adj.1 else a + adj.1
  (res, { z := res == 0, n := n, h := false, c := adj.2 })

/-! ## 16-bit addition -/

/-- `HL + rr` and its flags; Z is the one before (R166). -/
def addWords (a b : Word) (zf : Bool) : Word × Flags :=
  (a + b, { z := zf, n := false,
            h := decide ((a.extractLsb' 0 12).toNat + (b.extractLsb' 0 12).toNat > 0x0FFF),
            c := decide (a.toNat + b.toNat > 0xFFFF) })

/-- `SP + e8` and its flags, from the unsigned addition of the low bytes (R153, R167). -/
def addDisplacement (sp : Word) (e8 : Byte) : Word × Flags :=
  (sp + signExtend16 e8,
   { z := false, n := false,
     h := decide (lowNibble (loByte sp) + lowNibble e8 > 0x0F),
     c := decide ((loByte sp).toNat + e8.toNat > 0xFF) })

/-! ## Rotates, shifts and bits -/

/-- The result and the carry out of a rotate or shift (R195 to R202; R190 to R193 for the rotates of A). -/
def rotValue (op : RotOp) (v : Byte) (cf : Bool) : Byte × Bool :=
  match op with
  | .rlc => (v.extractLsb' 0 7 ++ BitVec.ofBool (v.getLsbD 7), v.getLsbD 7)
  | .rrc => (BitVec.ofBool (v.getLsbD 0) ++ v.extractLsb' 1 7, v.getLsbD 0)
  | .rl => (v.extractLsb' 0 7 ++ BitVec.ofBool cf, v.getLsbD 7)
  | .rr => (BitVec.ofBool cf ++ v.extractLsb' 1 7, v.getLsbD 0)
  | .sla => (v.extractLsb' 0 7 ++ BitVec.ofBool false, v.getLsbD 7)
  | .sra => (BitVec.ofBool (v.getLsbD 7) ++ v.extractLsb' 1 7, v.getLsbD 0)
  | .swap => (v.extractLsb' 0 4 ++ v.extractLsb' 4 4, false)
  | .srl => (BitVec.ofBool false ++ v.extractLsb' 1 7, v.getLsbD 0)

/-- Z after a rotate or shift: the four rotates always clear it (R195 to R198), the shifts and SWAP take it from the
result (R199 to R202). -/
def rotZero (op : RotOp) (res : Byte) : Bool :=
  match op with
  | .rlc => false
  | .rrc => false
  | .rl => false
  | .rr => false
  | .sla => res == 0
  | .sra => res == 0
  | .swap => res == 0
  | .srl => res == 0

/-- The result and flags of a rotate or shift of the extended table (R195 to R202). -/
def rotResult (op : RotOp) (v : Byte) (cf : Bool) : Byte × Flags :=
  let r := rotValue op v cf
  (r.1, { z := rotZero op r.1, n := false, h := false, c := r.2 })

/-- The flags of BIT n: Z is the inverse of the bit, the carry is the one before (R203). -/
def bitFlags (n : Fin 8) (v : Byte) (cf : Bool) : Flags := { z := !v.getLsbD n.val, n := false, h := true, c := cf }

/-- `1 << n` (R204, R205). -/
def bitMask (n : Fin 8) : Byte := 1 <<< n.val

end Sys2Proof.Machine
end

