-- ==== Sys2Proof/Machine/Operands.lean ====
section
/-! DEFINITION. The operand forms: an 8-bit register or the byte at HL (R94), the accumulator's indirect addresses
(R126 to R133), the high page (R134 to R137), and the conditions (R210). -/

namespace Sys2Proof.Machine

/-- Read `r[i]`: a register, or `MemRead(HL, 1)` (R94). -/
def State.readOperand (s : State) : Operand8 → Byte
  | .reg r => s.get8 r
  | .atHL => s.read8 s.hl

/-- Write `r[i]`: a register, or `MemWrite(HL, 1, v)` (R94). -/
def State.writeOperand (s : State) (o : Operand8) (v : Byte) : State :=
  match o with
  | .reg r => s.set8 r v
  | .atHL => s.write8 s.hl v

/-- A cost that depends on whether the operand is a register or the byte at HL. -/
def operandCost (o : Operand8) (register memory : Nat) : Nat :=
  match o with
  | .reg _ => register
  | .atHL => memory

/-- The address of an indirect load or store of A, before HL is updated (R126 to R133). -/
def State.indirectAddress (s : State) : IndirectAddr → Word
  | .bc => s.bc
  | .de => s.de
  | .hlInc => s.hl
  | .hlDec => s.hl

/-- The update of HL after the access: post-increment, post-decrement, or none (R126 to R133). -/
def State.indirectUpdate (s : State) : IndirectAddr → State
  | .bc => s
  | .de => s
  | .hlInc => s.setHL (s.hl + 1)
  | .hlDec => s.setHL (s.hl - 1)

/-- `{0xFF, v}`, an address in the high page (R99, R136). -/
def highPage (v : Byte) : Word := joinBytes 0xFF v

/-- `cond(cc)`, on the flags before the instruction (R210). -/
def State.cond (s : State) : Cond → Bool
  | .nz => !s.flagZ
  | .z => s.flagZ
  | .nc => !s.flagC
  | .c => s.flagC

end Sys2Proof.Machine
end

