-- ==== Sys2Proof/Machine/Alu8.lean ====
section
/-! DEFINITION. The eight accumulator operations and DAA, CPL, SCF, CCF (spec/43_alu8.md). -/

namespace Sys2Proof.Machine

/-- Every accumulator operation but CP writes A (R170 step 5, R178). -/
def aluWritesA : AluOp → Bool
  | .add => true
  | .adc => true
  | .sub => true
  | .sbc => true
  | .and => true
  | .xor => true
  | .or => true
  | .cp => false

/-- The common part of the accumulator operations, in the order of R170: x is read, CF is sampled, all of F is cleared,
the result is computed, A (not for CP) and F[7:4] are written, the pc moves on. -/
def accumulate (op : AluOp) (x : Byte) (len : Word) (n : Nat) (s : State) : Result :=
  let cin := s.flagC
  let cleared := { s with f := 0 }
  let r := aluResult op s.a x cin
  let written := if aluWritesA op then { cleared with a := r.1 } else cleared
  .next ((written.setFlags r.2).retire len n)

/-- The register and memory forms (R170). -/
def accumulateOperand (op : AluOp) (o : Operand8) (s : State) : Result :=
  accumulate op (s.readOperand o) 1 (operandCost o 4 8) s

/-- The immediate form (R170). -/
def accumulateImmediate (op : AluOp) (d8 : Byte) (s : State) : Result := accumulate op d8 2 8 s

/-- `DAA` (R179). -/
def decimalAdjust (s : State) : Result :=
  let r := daaResult s.a s.flagN s.flagH s.flagC
  .next ((({ s with a := r.1 }).setFlags r.2).retire 1 4)

/-- `CPL` (R180). -/
def complementA (s : State) : Result :=
  .next ((({ s with a := ~~~s.a }).setFlags { z := s.flagZ, n := true, h := true, c := s.flagC }).retire 1 4)

/-- `SCF` (R181). -/
def setCarry (s : State) : Result :=
  .next ((s.setFlags { z := s.flagZ, n := false, h := false, c := true }).retire 1 4)

/-- `CCF` (R182). -/
def complementCarry (s : State) : Result :=
  .next ((s.setFlags { z := s.flagZ, n := false, h := false, c := !s.flagC }).retire 1 4)

/-- `DAA`, `27` (R179). -/
def execDaa (s : State) : Result := decimalAdjust s

/-- `CPL`, `2F` (R180). -/
def execCpl (s : State) : Result := complementA s

/-- `SCF`, `37` (R181). -/
def execScf (s : State) : Result := setCarry s

/-- `CCF`, `3F` (R182). -/
def execCcf (s : State) : Result := complementCarry s

/-- `ADD A,B`, `80` (R171). -/
def execAddAB (s : State) : Result := accumulateOperand .add (.reg .b) s

/-- `ADD A,C`, `81` (R171). -/
def execAddAC (s : State) : Result := accumulateOperand .add (.reg .c) s

/-- `ADD A,D`, `82` (R171). -/
def execAddAD (s : State) : Result := accumulateOperand .add (.reg .d) s

/-- `ADD A,E`, `83` (R171). -/
def execAddAE (s : State) : Result := accumulateOperand .add (.reg .e) s

/-- `ADD A,H`, `84` (R171). -/
def execAddAH (s : State) : Result := accumulateOperand .add (.reg .h) s

/-- `ADD A,L`, `85` (R171). -/
def execAddAL (s : State) : Result := accumulateOperand .add (.reg .l) s

/-- `ADD A,(HL)`, `86` (R171). -/
def execAddAAtHL (s : State) : Result := accumulateOperand .add .atHL s

/-- `ADD A,A`, `87` (R171). -/
def execAddAA (s : State) : Result := accumulateOperand .add (.reg .a) s

/-- `ADC A,B`, `88` (R172). -/
def execAdcAB (s : State) : Result := accumulateOperand .adc (.reg .b) s

/-- `ADC A,C`, `89` (R172). -/
def execAdcAC (s : State) : Result := accumulateOperand .adc (.reg .c) s

/-- `ADC A,D`, `8A` (R172). -/
def execAdcAD (s : State) : Result := accumulateOperand .adc (.reg .d) s

/-- `ADC A,E`, `8B` (R172). -/
def execAdcAE (s : State) : Result := accumulateOperand .adc (.reg .e) s

/-- `ADC A,H`, `8C` (R172). -/
def execAdcAH (s : State) : Result := accumulateOperand .adc (.reg .h) s

/-- `ADC A,L`, `8D` (R172). -/
def execAdcAL (s : State) : Result := accumulateOperand .adc (.reg .l) s

/-- `ADC A,(HL)`, `8E` (R172). -/
def execAdcAAtHL (s : State) : Result := accumulateOperand .adc .atHL s

/-- `ADC A,A`, `8F` (R172). -/
def execAdcAA (s : State) : Result := accumulateOperand .adc (.reg .a) s

/-- `SUB B`, `90` (R173). -/
def execSubB (s : State) : Result := accumulateOperand .sub (.reg .b) s

/-- `SUB C`, `91` (R173). -/
def execSubC (s : State) : Result := accumulateOperand .sub (.reg .c) s

/-- `SUB D`, `92` (R173). -/
def execSubD (s : State) : Result := accumulateOperand .sub (.reg .d) s

/-- `SUB E`, `93` (R173). -/
def execSubE (s : State) : Result := accumulateOperand .sub (.reg .e) s

/-- `SUB H`, `94` (R173). -/
def execSubH (s : State) : Result := accumulateOperand .sub (.reg .h) s

/-- `SUB L`, `95` (R173). -/
def execSubL (s : State) : Result := accumulateOperand .sub (.reg .l) s

/-- `SUB (HL)`, `96` (R173). -/
def execSubAtHL (s : State) : Result := accumulateOperand .sub .atHL s

/-- `SUB A`, `97` (R173). -/
def execSubA (s : State) : Result := accumulateOperand .sub (.reg .a) s

/-- `SBC A,B`, `98` (R174). -/
def execSbcAB (s : State) : Result := accumulateOperand .sbc (.reg .b) s

/-- `SBC A,C`, `99` (R174). -/
def execSbcAC (s : State) : Result := accumulateOperand .sbc (.reg .c) s

/-- `SBC A,D`, `9A` (R174). -/
def execSbcAD (s : State) : Result := accumulateOperand .sbc (.reg .d) s

/-- `SBC A,E`, `9B` (R174). -/
def execSbcAE (s : State) : Result := accumulateOperand .sbc (.reg .e) s

/-- `SBC A,H`, `9C` (R174). -/
def execSbcAH (s : State) : Result := accumulateOperand .sbc (.reg .h) s

/-- `SBC A,L`, `9D` (R174). -/
def execSbcAL (s : State) : Result := accumulateOperand .sbc (.reg .l) s

/-- `SBC A,(HL)`, `9E` (R174). -/
def execSbcAAtHL (s : State) : Result := accumulateOperand .sbc .atHL s

/-- `SBC A,A`, `9F` (R174). -/
def execSbcAA (s : State) : Result := accumulateOperand .sbc (.reg .a) s

/-- `AND B`, `A0` (R175). -/
def execAndB (s : State) : Result := accumulateOperand .and (.reg .b) s

/-- `AND C`, `A1` (R175). -/
def execAndC (s : State) : Result := accumulateOperand .and (.reg .c) s

/-- `AND D`, `A2` (R175). -/
def execAndD (s : State) : Result := accumulateOperand .and (.reg .d) s

/-- `AND E`, `A3` (R175). -/
def execAndE (s : State) : Result := accumulateOperand .and (.reg .e) s

/-- `AND H`, `A4` (R175). -/
def execAndH (s : State) : Result := accumulateOperand .and (.reg .h) s

/-- `AND L`, `A5` (R175). -/
def execAndL (s : State) : Result := accumulateOperand .and (.reg .l) s

/-- `AND (HL)`, `A6` (R175). -/
def execAndAtHL (s : State) : Result := accumulateOperand .and .atHL s

/-- `AND A`, `A7` (R175). -/
def execAndA (s : State) : Result := accumulateOperand .and (.reg .a) s

/-- `XOR B`, `A8` (R176). -/
def execXorB (s : State) : Result := accumulateOperand .xor (.reg .b) s

/-- `XOR C`, `A9` (R176). -/
def execXorC (s : State) : Result := accumulateOperand .xor (.reg .c) s

/-- `XOR D`, `AA` (R176). -/
def execXorD (s : State) : Result := accumulateOperand .xor (.reg .d) s

/-- `XOR E`, `AB` (R176). -/
def execXorE (s : State) : Result := accumulateOperand .xor (.reg .e) s

/-- `XOR H`, `AC` (R176). -/
def execXorH (s : State) : Result := accumulateOperand .xor (.reg .h) s

/-- `XOR L`, `AD` (R176). -/
def execXorL (s : State) : Result := accumulateOperand .xor (.reg .l) s

/-- `XOR (HL)`, `AE` (R176). -/
def execXorAtHL (s : State) : Result := accumulateOperand .xor .atHL s

/-- `XOR A`, `AF` (R176). -/
def execXorA (s : State) : Result := accumulateOperand .xor (.reg .a) s

/-- `OR B`, `B0` (R177). -/
def execOrB (s : State) : Result := accumulateOperand .or (.reg .b) s

/-- `OR C`, `B1` (R177). -/
def execOrC (s : State) : Result := accumulateOperand .or (.reg .c) s

/-- `OR D`, `B2` (R177). -/
def execOrD (s : State) : Result := accumulateOperand .or (.reg .d) s

/-- `OR E`, `B3` (R177). -/
def execOrE (s : State) : Result := accumulateOperand .or (.reg .e) s

/-- `OR H`, `B4` (R177). -/
def execOrH (s : State) : Result := accumulateOperand .or (.reg .h) s

/-- `OR L`, `B5` (R177). -/
def execOrL (s : State) : Result := accumulateOperand .or (.reg .l) s

/-- `OR (HL)`, `B6` (R177). -/
def execOrAtHL (s : State) : Result := accumulateOperand .or .atHL s

/-- `OR A`, `B7` (R177). -/
def execOrA (s : State) : Result := accumulateOperand .or (.reg .a) s

/-- `CP B`, `B8` (R178). -/
def execCpB (s : State) : Result := accumulateOperand .cp (.reg .b) s

/-- `CP C`, `B9` (R178). -/
def execCpC (s : State) : Result := accumulateOperand .cp (.reg .c) s

/-- `CP D`, `BA` (R178). -/
def execCpD (s : State) : Result := accumulateOperand .cp (.reg .d) s

/-- `CP E`, `BB` (R178). -/
def execCpE (s : State) : Result := accumulateOperand .cp (.reg .e) s

/-- `CP H`, `BC` (R178). -/
def execCpH (s : State) : Result := accumulateOperand .cp (.reg .h) s

/-- `CP L`, `BD` (R178). -/
def execCpL (s : State) : Result := accumulateOperand .cp (.reg .l) s

/-- `CP (HL)`, `BE` (R178). -/
def execCpAtHL (s : State) : Result := accumulateOperand .cp .atHL s

/-- `CP A`, `BF` (R178). -/
def execCpA (s : State) : Result := accumulateOperand .cp (.reg .a) s

/-- `ADD A,d8`, `C6` (R171). -/
def execAddAD8 (d8 : Byte) (s : State) : Result := accumulateImmediate .add d8 s

/-- `ADC A,d8`, `CE` (R172). -/
def execAdcAD8 (d8 : Byte) (s : State) : Result := accumulateImmediate .adc d8 s

/-- `SUB d8`, `D6` (R173). -/
def execSubD8 (d8 : Byte) (s : State) : Result := accumulateImmediate .sub d8 s

/-- `SBC A,d8`, `DE` (R174). -/
def execSbcAD8 (d8 : Byte) (s : State) : Result := accumulateImmediate .sbc d8 s

/-- `AND d8`, `E6` (R175). -/
def execAndD8 (d8 : Byte) (s : State) : Result := accumulateImmediate .and d8 s

/-- `XOR d8`, `EE` (R176). -/
def execXorD8 (d8 : Byte) (s : State) : Result := accumulateImmediate .xor d8 s

/-- `OR d8`, `F6` (R177). -/
def execOrD8 (d8 : Byte) (s : State) : Result := accumulateImmediate .or d8 s

/-- `CP d8`, `FE` (R178). -/
def execCpD8 (d8 : Byte) (s : State) : Result := accumulateImmediate .cp d8 s

end Sys2Proof.Machine
end

