-- ==== Sys2Proof/Syntax.lean ====
section
/-! DEFINITION. The syntax of the cgbemu-core ISA: one constructor per row of spec/opcode_table.json
(R100 to R105): first the rows with operand bytes, then the rows without, each in the table's order (Lean's code
generator wants constructors with arguments early). A constructor is named after its row's assembler text: `AtHL` is `(HL)`, `HLInc` is `HL+`,
`HLDec` is `HL-`, `SPE8` is `SP+e8`. Its argument is the row's operand bytes (R91, R99), a two-byte operand as the
little-endian word it stands for. -/

namespace Sys2Proof

inductive Instr where
  -- With operand bytes: Base table, x = 0 (R100)
  /-- `LD BC,d16`, `01` (R150) -/
  | ldBCD16 (d16 : Word)
  /-- `LD B,d8`, `06` (R122) -/
  | ldBD8 (d8 : Byte)
  /-- `LD (a16),SP`, `08` (R151) -/
  | ldAtA16SP (a16 : Word)
  /-- `LD C,d8`, `0E` (R122) -/
  | ldCD8 (d8 : Byte)
  /-- `STOP`, `10` (R231) -/
  | stop (pad : Byte)
  /-- `LD DE,d16`, `11` (R150) -/
  | ldDED16 (d16 : Word)
  /-- `LD D,d8`, `16` (R122) -/
  | ldDD8 (d8 : Byte)
  /-- `JR e8`, `18` (R211) -/
  | jrE8 (e8 : Byte)
  /-- `LD E,d8`, `1E` (R122) -/
  | ldED8 (d8 : Byte)
  /-- `JR NZ,e8`, `20` (R212) -/
  | jrNZE8 (e8 : Byte)
  /-- `LD HL,d16`, `21` (R150) -/
  | ldHLD16 (d16 : Word)
  /-- `LD H,d8`, `26` (R122) -/
  | ldHD8 (d8 : Byte)
  /-- `JR Z,e8`, `28` (R212) -/
  | jrZE8 (e8 : Byte)
  /-- `LD L,d8`, `2E` (R122) -/
  | ldLD8 (d8 : Byte)
  /-- `JR NC,e8`, `30` (R212) -/
  | jrNCE8 (e8 : Byte)
  /-- `LD SP,d16`, `31` (R150) -/
  | ldSPD16 (d16 : Word)
  /-- `LD (HL),d8`, `36` (R125) -/
  | ldAtHLD8 (d8 : Byte)
  /-- `JR C,e8`, `38` (R212) -/
  | jrCE8 (e8 : Byte)
  /-- `LD A,d8`, `3E` (R122) -/
  | ldAD8 (d8 : Byte)
  -- With operand bytes: Base table, x = 3 (R103 and R105)
  /-- `JP NZ,a16`, `C2` (R214) -/
  | jpNZA16 (a16 : Word)
  /-- `JP a16`, `C3` (R213) -/
  | jpA16 (a16 : Word)
  /-- `CALL NZ,a16`, `C4` (R217) -/
  | callNZA16 (a16 : Word)
  /-- `ADD A,d8`, `C6` (R171) -/
  | addAD8 (d8 : Byte)
  /-- `JP Z,a16`, `CA` (R214) -/
  | jpZA16 (a16 : Word)
  /-- `PREFIX CB`, `CB` (R234) -/
  | prefixCB (op2 : Byte)
  /-- `CALL Z,a16`, `CC` (R217) -/
  | callZA16 (a16 : Word)
  /-- `CALL a16`, `CD` (R216) -/
  | callA16 (a16 : Word)
  /-- `ADC A,d8`, `CE` (R172) -/
  | adcAD8 (d8 : Byte)
  /-- `JP NC,a16`, `D2` (R214) -/
  | jpNCA16 (a16 : Word)
  /-- `CALL NC,a16`, `D4` (R217) -/
  | callNCA16 (a16 : Word)
  /-- `SUB d8`, `D6` (R173) -/
  | subD8 (d8 : Byte)
  /-- `JP C,a16`, `DA` (R214) -/
  | jpCA16 (a16 : Word)
  /-- `CALL C,a16`, `DC` (R217) -/
  | callCA16 (a16 : Word)
  /-- `SBC A,d8`, `DE` (R174) -/
  | sbcAD8 (d8 : Byte)
  /-- `LDH (a8),A`, `E0` (R134) -/
  | ldhAtA8A (a8 : Byte)
  /-- `AND d8`, `E6` (R175) -/
  | andD8 (d8 : Byte)
  /-- `ADD SP,e8`, `E8` (R167) -/
  | addSPE8 (e8 : Byte)
  /-- `LD (a16),A`, `EA` (R138) -/
  | ldAtA16A (a16 : Word)
  /-- `XOR d8`, `EE` (R176) -/
  | xorD8 (d8 : Byte)
  /-- `LDH A,(a8)`, `F0` (R135) -/
  | ldhAAtA8 (a8 : Byte)
  /-- `OR d8`, `F6` (R177) -/
  | orD8 (d8 : Byte)
  /-- `LD HL,SP+e8`, `F8` (R153) -/
  | ldHLSPE8 (e8 : Byte)
  /-- `LD A,(a16)`, `FA` (R139) -/
  | ldAAtA16 (a16 : Word)
  /-- `CP d8`, `FE` (R178) -/
  | cpD8 (d8 : Byte)
  -- Without: Base table, x = 0 (R100)
  /-- `NOP`, `00` (R120) -/
  | nop
  /-- `LD (BC),A`, `02` (R128) -/
  | ldAtBCA
  /-- `INC BC`, `03` (R160) -/
  | incBC
  /-- `INC B`, `04` (R162) -/
  | incB
  /-- `DEC B`, `05` (R163) -/
  | decB
  /-- `RLCA`, `07` (R190) -/
  | rlca
  /-- `ADD HL,BC`, `09` (R166) -/
  | addHLBC
  /-- `LD A,(BC)`, `0A` (R126) -/
  | ldAAtBC
  /-- `DEC BC`, `0B` (R161) -/
  | decBC
  /-- `INC C`, `0C` (R162) -/
  | incC
  /-- `DEC C`, `0D` (R163) -/
  | decC
  /-- `RRCA`, `0F` (R191) -/
  | rrca
  /-- `LD (DE),A`, `12` (R129) -/
  | ldAtDEA
  /-- `INC DE`, `13` (R160) -/
  | incDE
  /-- `INC D`, `14` (R162) -/
  | incD
  /-- `DEC D`, `15` (R163) -/
  | decD
  /-- `RLA`, `17` (R192) -/
  | rla
  /-- `ADD HL,DE`, `19` (R166) -/
  | addHLDE
  /-- `LD A,(DE)`, `1A` (R127) -/
  | ldAAtDE
  /-- `DEC DE`, `1B` (R161) -/
  | decDE
  /-- `INC E`, `1C` (R162) -/
  | incE
  /-- `DEC E`, `1D` (R163) -/
  | decE
  /-- `RRA`, `1F` (R193) -/
  | rra
  /-- `LD (HL+),A`, `22` (R130) -/
  | ldAtHLIncA
  /-- `INC HL`, `23` (R160) -/
  | incHL
  /-- `INC H`, `24` (R162) -/
  | incH
  /-- `DEC H`, `25` (R163) -/
  | decH
  /-- `DAA`, `27` (R179) -/
  | daa
  /-- `ADD HL,HL`, `29` (R166) -/
  | addHLHL
  /-- `LD A,(HL+)`, `2A` (R132) -/
  | ldAAtHLInc
  /-- `DEC HL`, `2B` (R161) -/
  | decHL
  /-- `INC L`, `2C` (R162) -/
  | incL
  /-- `DEC L`, `2D` (R163) -/
  | decL
  /-- `CPL`, `2F` (R180) -/
  | cpl
  /-- `LD (HL-),A`, `32` (R131) -/
  | ldAtHLDecA
  /-- `INC SP`, `33` (R160) -/
  | incSP
  /-- `INC (HL)`, `34` (R164) -/
  | incAtHL
  /-- `DEC (HL)`, `35` (R165) -/
  | decAtHL
  /-- `SCF`, `37` (R181) -/
  | scf
  /-- `ADD HL,SP`, `39` (R166) -/
  | addHLSP
  /-- `LD A,(HL-)`, `3A` (R133) -/
  | ldAAtHLDec
  /-- `DEC SP`, `3B` (R161) -/
  | decSP
  /-- `INC A`, `3C` (R162) -/
  | incA
  /-- `DEC A`, `3D` (R163) -/
  | decA
  /-- `CCF`, `3F` (R182) -/
  | ccf
  -- Without: Base table, x = 1 (R101)
  /-- `LD B,B`, `40` (R121) -/
  | ldBB
  /-- `LD B,C`, `41` (R121) -/
  | ldBC
  /-- `LD B,D`, `42` (R121) -/
  | ldBD
  /-- `LD B,E`, `43` (R121) -/
  | ldBE
  /-- `LD B,H`, `44` (R121) -/
  | ldBH
  /-- `LD B,L`, `45` (R121) -/
  | ldBL
  /-- `LD B,(HL)`, `46` (R123) -/
  | ldBAtHL
  /-- `LD B,A`, `47` (R121) -/
  | ldBA
  /-- `LD C,B`, `48` (R121) -/
  | ldCB
  /-- `LD C,C`, `49` (R121) -/
  | ldCC
  /-- `LD C,D`, `4A` (R121) -/
  | ldCD
  /-- `LD C,E`, `4B` (R121) -/
  | ldCE
  /-- `LD C,H`, `4C` (R121) -/
  | ldCH
  /-- `LD C,L`, `4D` (R121) -/
  | ldCL
  /-- `LD C,(HL)`, `4E` (R123) -/
  | ldCAtHL
  /-- `LD C,A`, `4F` (R121) -/
  | ldCA
  /-- `LD D,B`, `50` (R121) -/
  | ldDB
  /-- `LD D,C`, `51` (R121) -/
  | ldDC
  /-- `LD D,D`, `52` (R121) -/
  | ldDD
  /-- `LD D,E`, `53` (R121) -/
  | ldDE
  /-- `LD D,H`, `54` (R121) -/
  | ldDH
  /-- `LD D,L`, `55` (R121) -/
  | ldDL
  /-- `LD D,(HL)`, `56` (R123) -/
  | ldDAtHL
  /-- `LD D,A`, `57` (R121) -/
  | ldDA
  /-- `LD E,B`, `58` (R121) -/
  | ldEB
  /-- `LD E,C`, `59` (R121) -/
  | ldEC
  /-- `LD E,D`, `5A` (R121) -/
  | ldED
  /-- `LD E,E`, `5B` (R121) -/
  | ldEE
  /-- `LD E,H`, `5C` (R121) -/
  | ldEH
  /-- `LD E,L`, `5D` (R121) -/
  | ldEL
  /-- `LD E,(HL)`, `5E` (R123) -/
  | ldEAtHL
  /-- `LD E,A`, `5F` (R121) -/
  | ldEA
  /-- `LD H,B`, `60` (R121) -/
  | ldHB
  /-- `LD H,C`, `61` (R121) -/
  | ldHC
  /-- `LD H,D`, `62` (R121) -/
  | ldHD
  /-- `LD H,E`, `63` (R121) -/
  | ldHE
  /-- `LD H,H`, `64` (R121) -/
  | ldHH
  /-- `LD H,L`, `65` (R121) -/
  | ldHL
  /-- `LD H,(HL)`, `66` (R123) -/
  | ldHAtHL
  /-- `LD H,A`, `67` (R121) -/
  | ldHA
  /-- `LD L,B`, `68` (R121) -/
  | ldLB
  /-- `LD L,C`, `69` (R121) -/
  | ldLC
  /-- `LD L,D`, `6A` (R121) -/
  | ldLD
  /-- `LD L,E`, `6B` (R121) -/
  | ldLE
  /-- `LD L,H`, `6C` (R121) -/
  | ldLH
  /-- `LD L,L`, `6D` (R121) -/
  | ldLL
  /-- `LD L,(HL)`, `6E` (R123) -/
  | ldLAtHL
  /-- `LD L,A`, `6F` (R121) -/
  | ldLA
  /-- `LD (HL),B`, `70` (R124) -/
  | ldAtHLB
  /-- `LD (HL),C`, `71` (R124) -/
  | ldAtHLC
  /-- `LD (HL),D`, `72` (R124) -/
  | ldAtHLD
  /-- `LD (HL),E`, `73` (R124) -/
  | ldAtHLE
  /-- `LD (HL),H`, `74` (R124) -/
  | ldAtHLH
  /-- `LD (HL),L`, `75` (R124) -/
  | ldAtHLL
  /-- `HALT`, `76` (R230) -/
  | halt
  /-- `LD (HL),A`, `77` (R124) -/
  | ldAtHLA
  /-- `LD A,B`, `78` (R121) -/
  | ldAB
  /-- `LD A,C`, `79` (R121) -/
  | ldAC
  /-- `LD A,D`, `7A` (R121) -/
  | ldAD
  /-- `LD A,E`, `7B` (R121) -/
  | ldAE
  /-- `LD A,H`, `7C` (R121) -/
  | ldAH
  /-- `LD A,L`, `7D` (R121) -/
  | ldAL
  /-- `LD A,(HL)`, `7E` (R123) -/
  | ldAAtHL
  /-- `LD A,A`, `7F` (R121) -/
  | ldAA
  -- Without: Base table, x = 2 (R102)
  /-- `ADD A,B`, `80` (R171) -/
  | addAB
  /-- `ADD A,C`, `81` (R171) -/
  | addAC
  /-- `ADD A,D`, `82` (R171) -/
  | addAD
  /-- `ADD A,E`, `83` (R171) -/
  | addAE
  /-- `ADD A,H`, `84` (R171) -/
  | addAH
  /-- `ADD A,L`, `85` (R171) -/
  | addAL
  /-- `ADD A,(HL)`, `86` (R171) -/
  | addAAtHL
  /-- `ADD A,A`, `87` (R171) -/
  | addAA
  /-- `ADC A,B`, `88` (R172) -/
  | adcAB
  /-- `ADC A,C`, `89` (R172) -/
  | adcAC
  /-- `ADC A,D`, `8A` (R172) -/
  | adcAD
  /-- `ADC A,E`, `8B` (R172) -/
  | adcAE
  /-- `ADC A,H`, `8C` (R172) -/
  | adcAH
  /-- `ADC A,L`, `8D` (R172) -/
  | adcAL
  /-- `ADC A,(HL)`, `8E` (R172) -/
  | adcAAtHL
  /-- `ADC A,A`, `8F` (R172) -/
  | adcAA
  /-- `SUB B`, `90` (R173) -/
  | subB
  /-- `SUB C`, `91` (R173) -/
  | subC
  /-- `SUB D`, `92` (R173) -/
  | subD
  /-- `SUB E`, `93` (R173) -/
  | subE
  /-- `SUB H`, `94` (R173) -/
  | subH
  /-- `SUB L`, `95` (R173) -/
  | subL
  /-- `SUB (HL)`, `96` (R173) -/
  | subAtHL
  /-- `SUB A`, `97` (R173) -/
  | subA
  /-- `SBC A,B`, `98` (R174) -/
  | sbcAB
  /-- `SBC A,C`, `99` (R174) -/
  | sbcAC
  /-- `SBC A,D`, `9A` (R174) -/
  | sbcAD
  /-- `SBC A,E`, `9B` (R174) -/
  | sbcAE
  /-- `SBC A,H`, `9C` (R174) -/
  | sbcAH
  /-- `SBC A,L`, `9D` (R174) -/
  | sbcAL
  /-- `SBC A,(HL)`, `9E` (R174) -/
  | sbcAAtHL
  /-- `SBC A,A`, `9F` (R174) -/
  | sbcAA
  /-- `AND B`, `A0` (R175) -/
  | andB
  /-- `AND C`, `A1` (R175) -/
  | andC
  /-- `AND D`, `A2` (R175) -/
  | andD
  /-- `AND E`, `A3` (R175) -/
  | andE
  /-- `AND H`, `A4` (R175) -/
  | andH
  /-- `AND L`, `A5` (R175) -/
  | andL
  /-- `AND (HL)`, `A6` (R175) -/
  | andAtHL
  /-- `AND A`, `A7` (R175) -/
  | andA
  /-- `XOR B`, `A8` (R176) -/
  | xorB
  /-- `XOR C`, `A9` (R176) -/
  | xorC
  /-- `XOR D`, `AA` (R176) -/
  | xorD
  /-- `XOR E`, `AB` (R176) -/
  | xorE
  /-- `XOR H`, `AC` (R176) -/
  | xorH
  /-- `XOR L`, `AD` (R176) -/
  | xorL
  /-- `XOR (HL)`, `AE` (R176) -/
  | xorAtHL
  /-- `XOR A`, `AF` (R176) -/
  | xorA
  /-- `OR B`, `B0` (R177) -/
  | orB
  /-- `OR C`, `B1` (R177) -/
  | orC
  /-- `OR D`, `B2` (R177) -/
  | orD
  /-- `OR E`, `B3` (R177) -/
  | orE
  /-- `OR H`, `B4` (R177) -/
  | orH
  /-- `OR L`, `B5` (R177) -/
  | orL
  /-- `OR (HL)`, `B6` (R177) -/
  | orAtHL
  /-- `OR A`, `B7` (R177) -/
  | orA
  /-- `CP B`, `B8` (R178) -/
  | cpB
  /-- `CP C`, `B9` (R178) -/
  | cpC
  /-- `CP D`, `BA` (R178) -/
  | cpD
  /-- `CP E`, `BB` (R178) -/
  | cpE
  /-- `CP H`, `BC` (R178) -/
  | cpH
  /-- `CP L`, `BD` (R178) -/
  | cpL
  /-- `CP (HL)`, `BE` (R178) -/
  | cpAtHL
  /-- `CP A`, `BF` (R178) -/
  | cpA
  -- Without: Base table, x = 3 (R103 and R105)
  /-- `RET NZ`, `C0` (R219) -/
  | retNZ
  /-- `POP BC`, `C1` (R155) -/
  | popBC
  /-- `PUSH BC`, `C5` (R154) -/
  | pushBC
  /-- `RST 0x00`, `C7` (R221) -/
  | rst00
  /-- `RET Z`, `C8` (R219) -/
  | retZ
  /-- `RET`, `C9` (R218) -/
  | ret
  /-- `RST 0x08`, `CF` (R221) -/
  | rst08
  /-- `RET NC`, `D0` (R219) -/
  | retNC
  /-- `POP DE`, `D1` (R155) -/
  | popDE
  /-- undefined opcode, `D3` (R235) -/
  | undefD3
  /-- `PUSH DE`, `D5` (R154) -/
  | pushDE
  /-- `RST 0x10`, `D7` (R221) -/
  | rst10
  /-- `RET C`, `D8` (R219) -/
  | retC
  /-- `RETI`, `D9` (R220) -/
  | reti
  /-- undefined opcode, `DB` (R235) -/
  | undefDB
  /-- undefined opcode, `DD` (R235) -/
  | undefDD
  /-- `RST 0x18`, `DF` (R221) -/
  | rst18
  /-- `POP HL`, `E1` (R155) -/
  | popHL
  /-- `LD (C),A`, `E2` (R136) -/
  | ldAtCA
  /-- undefined opcode, `E3` (R235) -/
  | undefE3
  /-- undefined opcode, `E4` (R235) -/
  | undefE4
  /-- `PUSH HL`, `E5` (R154) -/
  | pushHL
  /-- `RST 0x20`, `E7` (R221) -/
  | rst20
  /-- `JP (HL)`, `E9` (R215) -/
  | jpAtHL
  /-- undefined opcode, `EB` (R235) -/
  | undefEB
  /-- undefined opcode, `EC` (R235) -/
  | undefEC
  /-- undefined opcode, `ED` (R235) -/
  | undefED
  /-- `RST 0x28`, `EF` (R221) -/
  | rst28
  /-- `POP AF`, `F1` (R156) -/
  | popAF
  /-- `LD A,(C)`, `F2` (R137) -/
  | ldAAtC
  /-- `DI`, `F3` (R232) -/
  | di
  /-- undefined opcode, `F4` (R235) -/
  | undefF4
  /-- `PUSH AF`, `F5` (R154) -/
  | pushAF
  /-- `RST 0x30`, `F7` (R221) -/
  | rst30
  /-- `LD SP,HL`, `F9` (R152) -/
  | ldSPHL
  /-- `EI`, `FB` (R233) -/
  | ei
  /-- undefined opcode, `FC` (R235) -/
  | undefFC
  /-- undefined opcode, `FD` (R235) -/
  | undefFD
  /-- `RST 0x38`, `FF` (R221) -/
  | rst38
  -- Without: The extended table (R104): rotates and shifts
  /-- `RLC B`, `CB 00` (R195) -/
  | rlcB
  /-- `RLC C`, `CB 01` (R195) -/
  | rlcC
  /-- `RLC D`, `CB 02` (R195) -/
  | rlcD
  /-- `RLC E`, `CB 03` (R195) -/
  | rlcE
  /-- `RLC H`, `CB 04` (R195) -/
  | rlcH
  /-- `RLC L`, `CB 05` (R195) -/
  | rlcL
  /-- `RLC (HL)`, `CB 06` (R195) -/
  | rlcAtHL
  /-- `RLC A`, `CB 07` (R195) -/
  | rlcA
  /-- `RRC B`, `CB 08` (R196) -/
  | rrcB
  /-- `RRC C`, `CB 09` (R196) -/
  | rrcC
  /-- `RRC D`, `CB 0A` (R196) -/
  | rrcD
  /-- `RRC E`, `CB 0B` (R196) -/
  | rrcE
  /-- `RRC H`, `CB 0C` (R196) -/
  | rrcH
  /-- `RRC L`, `CB 0D` (R196) -/
  | rrcL
  /-- `RRC (HL)`, `CB 0E` (R196) -/
  | rrcAtHL
  /-- `RRC A`, `CB 0F` (R196) -/
  | rrcA
  /-- `RL B`, `CB 10` (R197) -/
  | rlB
  /-- `RL C`, `CB 11` (R197) -/
  | rlC
  /-- `RL D`, `CB 12` (R197) -/
  | rlD
  /-- `RL E`, `CB 13` (R197) -/
  | rlE
  /-- `RL H`, `CB 14` (R197) -/
  | rlH
  /-- `RL L`, `CB 15` (R197) -/
  | rlL
  /-- `RL (HL)`, `CB 16` (R197) -/
  | rlAtHL
  /-- `RL A`, `CB 17` (R197) -/
  | rlA
  /-- `RR B`, `CB 18` (R198) -/
  | rrB
  /-- `RR C`, `CB 19` (R198) -/
  | rrC
  /-- `RR D`, `CB 1A` (R198) -/
  | rrD
  /-- `RR E`, `CB 1B` (R198) -/
  | rrE
  /-- `RR H`, `CB 1C` (R198) -/
  | rrH
  /-- `RR L`, `CB 1D` (R198) -/
  | rrL
  /-- `RR (HL)`, `CB 1E` (R198) -/
  | rrAtHL
  /-- `RR A`, `CB 1F` (R198) -/
  | rrA
  /-- `SLA B`, `CB 20` (R199) -/
  | slaB
  /-- `SLA C`, `CB 21` (R199) -/
  | slaC
  /-- `SLA D`, `CB 22` (R199) -/
  | slaD
  /-- `SLA E`, `CB 23` (R199) -/
  | slaE
  /-- `SLA H`, `CB 24` (R199) -/
  | slaH
  /-- `SLA L`, `CB 25` (R199) -/
  | slaL
  /-- `SLA (HL)`, `CB 26` (R199) -/
  | slaAtHL
  /-- `SLA A`, `CB 27` (R199) -/
  | slaA
  /-- `SRA B`, `CB 28` (R200) -/
  | sraB
  /-- `SRA C`, `CB 29` (R200) -/
  | sraC
  /-- `SRA D`, `CB 2A` (R200) -/
  | sraD
  /-- `SRA E`, `CB 2B` (R200) -/
  | sraE
  /-- `SRA H`, `CB 2C` (R200) -/
  | sraH
  /-- `SRA L`, `CB 2D` (R200) -/
  | sraL
  /-- `SRA (HL)`, `CB 2E` (R200) -/
  | sraAtHL
  /-- `SRA A`, `CB 2F` (R200) -/
  | sraA
  /-- `SWAP B`, `CB 30` (R201) -/
  | swapB
  /-- `SWAP C`, `CB 31` (R201) -/
  | swapC
  /-- `SWAP D`, `CB 32` (R201) -/
  | swapD
  /-- `SWAP E`, `CB 33` (R201) -/
  | swapE
  /-- `SWAP H`, `CB 34` (R201) -/
  | swapH
  /-- `SWAP L`, `CB 35` (R201) -/
  | swapL
  /-- `SWAP (HL)`, `CB 36` (R201) -/
  | swapAtHL
  /-- `SWAP A`, `CB 37` (R201) -/
  | swapA
  /-- `SRL B`, `CB 38` (R202) -/
  | srlB
  /-- `SRL C`, `CB 39` (R202) -/
  | srlC
  /-- `SRL D`, `CB 3A` (R202) -/
  | srlD
  /-- `SRL E`, `CB 3B` (R202) -/
  | srlE
  /-- `SRL H`, `CB 3C` (R202) -/
  | srlH
  /-- `SRL L`, `CB 3D` (R202) -/
  | srlL
  /-- `SRL (HL)`, `CB 3E` (R202) -/
  | srlAtHL
  /-- `SRL A`, `CB 3F` (R202) -/
  | srlA
  -- Without: The extended table (R104): BIT
  /-- `BIT 0,B`, `CB 40` (R203) -/
  | bit0B
  /-- `BIT 0,C`, `CB 41` (R203) -/
  | bit0C
  /-- `BIT 0,D`, `CB 42` (R203) -/
  | bit0D
  /-- `BIT 0,E`, `CB 43` (R203) -/
  | bit0E
  /-- `BIT 0,H`, `CB 44` (R203) -/
  | bit0H
  /-- `BIT 0,L`, `CB 45` (R203) -/
  | bit0L
  /-- `BIT 0,(HL)`, `CB 46` (R203) -/
  | bit0AtHL
  /-- `BIT 0,A`, `CB 47` (R203) -/
  | bit0A
  /-- `BIT 1,B`, `CB 48` (R203) -/
  | bit1B
  /-- `BIT 1,C`, `CB 49` (R203) -/
  | bit1C
  /-- `BIT 1,D`, `CB 4A` (R203) -/
  | bit1D
  /-- `BIT 1,E`, `CB 4B` (R203) -/
  | bit1E
  /-- `BIT 1,H`, `CB 4C` (R203) -/
  | bit1H
  /-- `BIT 1,L`, `CB 4D` (R203) -/
  | bit1L
  /-- `BIT 1,(HL)`, `CB 4E` (R203) -/
  | bit1AtHL
  /-- `BIT 1,A`, `CB 4F` (R203) -/
  | bit1A
  /-- `BIT 2,B`, `CB 50` (R203) -/
  | bit2B
  /-- `BIT 2,C`, `CB 51` (R203) -/
  | bit2C
  /-- `BIT 2,D`, `CB 52` (R203) -/
  | bit2D
  /-- `BIT 2,E`, `CB 53` (R203) -/
  | bit2E
  /-- `BIT 2,H`, `CB 54` (R203) -/
  | bit2H
  /-- `BIT 2,L`, `CB 55` (R203) -/
  | bit2L
  /-- `BIT 2,(HL)`, `CB 56` (R203) -/
  | bit2AtHL
  /-- `BIT 2,A`, `CB 57` (R203) -/
  | bit2A
  /-- `BIT 3,B`, `CB 58` (R203) -/
  | bit3B
  /-- `BIT 3,C`, `CB 59` (R203) -/
  | bit3C
  /-- `BIT 3,D`, `CB 5A` (R203) -/
  | bit3D
  /-- `BIT 3,E`, `CB 5B` (R203) -/
  | bit3E
  /-- `BIT 3,H`, `CB 5C` (R203) -/
  | bit3H
  /-- `BIT 3,L`, `CB 5D` (R203) -/
  | bit3L
  /-- `BIT 3,(HL)`, `CB 5E` (R203) -/
  | bit3AtHL
  /-- `BIT 3,A`, `CB 5F` (R203) -/
  | bit3A
  /-- `BIT 4,B`, `CB 60` (R203) -/
  | bit4B
  /-- `BIT 4,C`, `CB 61` (R203) -/
  | bit4C
  /-- `BIT 4,D`, `CB 62` (R203) -/
  | bit4D
  /-- `BIT 4,E`, `CB 63` (R203) -/
  | bit4E
  /-- `BIT 4,H`, `CB 64` (R203) -/
  | bit4H
  /-- `BIT 4,L`, `CB 65` (R203) -/
  | bit4L
  /-- `BIT 4,(HL)`, `CB 66` (R203) -/
  | bit4AtHL
  /-- `BIT 4,A`, `CB 67` (R203) -/
  | bit4A
  /-- `BIT 5,B`, `CB 68` (R203) -/
  | bit5B
  /-- `BIT 5,C`, `CB 69` (R203) -/
  | bit5C
  /-- `BIT 5,D`, `CB 6A` (R203) -/
  | bit5D
  /-- `BIT 5,E`, `CB 6B` (R203) -/
  | bit5E
  /-- `BIT 5,H`, `CB 6C` (R203) -/
  | bit5H
  /-- `BIT 5,L`, `CB 6D` (R203) -/
  | bit5L
  /-- `BIT 5,(HL)`, `CB 6E` (R203) -/
  | bit5AtHL
  /-- `BIT 5,A`, `CB 6F` (R203) -/
  | bit5A
  /-- `BIT 6,B`, `CB 70` (R203) -/
  | bit6B
  /-- `BIT 6,C`, `CB 71` (R203) -/
  | bit6C
  /-- `BIT 6,D`, `CB 72` (R203) -/
  | bit6D
  /-- `BIT 6,E`, `CB 73` (R203) -/
  | bit6E
  /-- `BIT 6,H`, `CB 74` (R203) -/
  | bit6H
  /-- `BIT 6,L`, `CB 75` (R203) -/
  | bit6L
  /-- `BIT 6,(HL)`, `CB 76` (R203) -/
  | bit6AtHL
  /-- `BIT 6,A`, `CB 77` (R203) -/
  | bit6A
  /-- `BIT 7,B`, `CB 78` (R203) -/
  | bit7B
  /-- `BIT 7,C`, `CB 79` (R203) -/
  | bit7C
  /-- `BIT 7,D`, `CB 7A` (R203) -/
  | bit7D
  /-- `BIT 7,E`, `CB 7B` (R203) -/
  | bit7E
  /-- `BIT 7,H`, `CB 7C` (R203) -/
  | bit7H
  /-- `BIT 7,L`, `CB 7D` (R203) -/
  | bit7L
  /-- `BIT 7,(HL)`, `CB 7E` (R203) -/
  | bit7AtHL
  /-- `BIT 7,A`, `CB 7F` (R203) -/
  | bit7A
  -- Without: The extended table (R104): RES
  /-- `RES 0,B`, `CB 80` (R204) -/
  | res0B
  /-- `RES 0,C`, `CB 81` (R204) -/
  | res0C
  /-- `RES 0,D`, `CB 82` (R204) -/
  | res0D
  /-- `RES 0,E`, `CB 83` (R204) -/
  | res0E
  /-- `RES 0,H`, `CB 84` (R204) -/
  | res0H
  /-- `RES 0,L`, `CB 85` (R204) -/
  | res0L
  /-- `RES 0,(HL)`, `CB 86` (R204) -/
  | res0AtHL
  /-- `RES 0,A`, `CB 87` (R204) -/
  | res0A
  /-- `RES 1,B`, `CB 88` (R204) -/
  | res1B
  /-- `RES 1,C`, `CB 89` (R204) -/
  | res1C
  /-- `RES 1,D`, `CB 8A` (R204) -/
  | res1D
  /-- `RES 1,E`, `CB 8B` (R204) -/
  | res1E
  /-- `RES 1,H`, `CB 8C` (R204) -/
  | res1H
  /-- `RES 1,L`, `CB 8D` (R204) -/
  | res1L
  /-- `RES 1,(HL)`, `CB 8E` (R204) -/
  | res1AtHL
  /-- `RES 1,A`, `CB 8F` (R204) -/
  | res1A
  /-- `RES 2,B`, `CB 90` (R204) -/
  | res2B
  /-- `RES 2,C`, `CB 91` (R204) -/
  | res2C
  /-- `RES 2,D`, `CB 92` (R204) -/
  | res2D
  /-- `RES 2,E`, `CB 93` (R204) -/
  | res2E
  /-- `RES 2,H`, `CB 94` (R204) -/
  | res2H
  /-- `RES 2,L`, `CB 95` (R204) -/
  | res2L
  /-- `RES 2,(HL)`, `CB 96` (R204) -/
  | res2AtHL
  /-- `RES 2,A`, `CB 97` (R204) -/
  | res2A
  /-- `RES 3,B`, `CB 98` (R204) -/
  | res3B
  /-- `RES 3,C`, `CB 99` (R204) -/
  | res3C
  /-- `RES 3,D`, `CB 9A` (R204) -/
  | res3D
  /-- `RES 3,E`, `CB 9B` (R204) -/
  | res3E
  /-- `RES 3,H`, `CB 9C` (R204) -/
  | res3H
  /-- `RES 3,L`, `CB 9D` (R204) -/
  | res3L
  /-- `RES 3,(HL)`, `CB 9E` (R204) -/
  | res3AtHL
  /-- `RES 3,A`, `CB 9F` (R204) -/
  | res3A
  /-- `RES 4,B`, `CB A0` (R204) -/
  | res4B
  /-- `RES 4,C`, `CB A1` (R204) -/
  | res4C
  /-- `RES 4,D`, `CB A2` (R204) -/
  | res4D
  /-- `RES 4,E`, `CB A3` (R204) -/
  | res4E
  /-- `RES 4,H`, `CB A4` (R204) -/
  | res4H
  /-- `RES 4,L`, `CB A5` (R204) -/
  | res4L
  /-- `RES 4,(HL)`, `CB A6` (R204) -/
  | res4AtHL
  /-- `RES 4,A`, `CB A7` (R204) -/
  | res4A
  /-- `RES 5,B`, `CB A8` (R204) -/
  | res5B
  /-- `RES 5,C`, `CB A9` (R204) -/
  | res5C
  /-- `RES 5,D`, `CB AA` (R204) -/
  | res5D
  /-- `RES 5,E`, `CB AB` (R204) -/
  | res5E
  /-- `RES 5,H`, `CB AC` (R204) -/
  | res5H
  /-- `RES 5,L`, `CB AD` (R204) -/
  | res5L
  /-- `RES 5,(HL)`, `CB AE` (R204) -/
  | res5AtHL
  /-- `RES 5,A`, `CB AF` (R204) -/
  | res5A
  /-- `RES 6,B`, `CB B0` (R204) -/
  | res6B
  /-- `RES 6,C`, `CB B1` (R204) -/
  | res6C
  /-- `RES 6,D`, `CB B2` (R204) -/
  | res6D
  /-- `RES 6,E`, `CB B3` (R204) -/
  | res6E
  /-- `RES 6,H`, `CB B4` (R204) -/
  | res6H
  /-- `RES 6,L`, `CB B5` (R204) -/
  | res6L
  /-- `RES 6,(HL)`, `CB B6` (R204) -/
  | res6AtHL
  /-- `RES 6,A`, `CB B7` (R204) -/
  | res6A
  /-- `RES 7,B`, `CB B8` (R204) -/
  | res7B
  /-- `RES 7,C`, `CB B9` (R204) -/
  | res7C
  /-- `RES 7,D`, `CB BA` (R204) -/
  | res7D
  /-- `RES 7,E`, `CB BB` (R204) -/
  | res7E
  /-- `RES 7,H`, `CB BC` (R204) -/
  | res7H
  /-- `RES 7,L`, `CB BD` (R204) -/
  | res7L
  /-- `RES 7,(HL)`, `CB BE` (R204) -/
  | res7AtHL
  /-- `RES 7,A`, `CB BF` (R204) -/
  | res7A
  -- Without: The extended table (R104): SET
  /-- `SET 0,B`, `CB C0` (R205) -/
  | set0B
  /-- `SET 0,C`, `CB C1` (R205) -/
  | set0C
  /-- `SET 0,D`, `CB C2` (R205) -/
  | set0D
  /-- `SET 0,E`, `CB C3` (R205) -/
  | set0E
  /-- `SET 0,H`, `CB C4` (R205) -/
  | set0H
  /-- `SET 0,L`, `CB C5` (R205) -/
  | set0L
  /-- `SET 0,(HL)`, `CB C6` (R205) -/
  | set0AtHL
  /-- `SET 0,A`, `CB C7` (R205) -/
  | set0A
  /-- `SET 1,B`, `CB C8` (R205) -/
  | set1B
  /-- `SET 1,C`, `CB C9` (R205) -/
  | set1C
  /-- `SET 1,D`, `CB CA` (R205) -/
  | set1D
  /-- `SET 1,E`, `CB CB` (R205) -/
  | set1E
  /-- `SET 1,H`, `CB CC` (R205) -/
  | set1H
  /-- `SET 1,L`, `CB CD` (R205) -/
  | set1L
  /-- `SET 1,(HL)`, `CB CE` (R205) -/
  | set1AtHL
  /-- `SET 1,A`, `CB CF` (R205) -/
  | set1A
  /-- `SET 2,B`, `CB D0` (R205) -/
  | set2B
  /-- `SET 2,C`, `CB D1` (R205) -/
  | set2C
  /-- `SET 2,D`, `CB D2` (R205) -/
  | set2D
  /-- `SET 2,E`, `CB D3` (R205) -/
  | set2E
  /-- `SET 2,H`, `CB D4` (R205) -/
  | set2H
  /-- `SET 2,L`, `CB D5` (R205) -/
  | set2L
  /-- `SET 2,(HL)`, `CB D6` (R205) -/
  | set2AtHL
  /-- `SET 2,A`, `CB D7` (R205) -/
  | set2A
  /-- `SET 3,B`, `CB D8` (R205) -/
  | set3B
  /-- `SET 3,C`, `CB D9` (R205) -/
  | set3C
  /-- `SET 3,D`, `CB DA` (R205) -/
  | set3D
  /-- `SET 3,E`, `CB DB` (R205) -/
  | set3E
  /-- `SET 3,H`, `CB DC` (R205) -/
  | set3H
  /-- `SET 3,L`, `CB DD` (R205) -/
  | set3L
  /-- `SET 3,(HL)`, `CB DE` (R205) -/
  | set3AtHL
  /-- `SET 3,A`, `CB DF` (R205) -/
  | set3A
  /-- `SET 4,B`, `CB E0` (R205) -/
  | set4B
  /-- `SET 4,C`, `CB E1` (R205) -/
  | set4C
  /-- `SET 4,D`, `CB E2` (R205) -/
  | set4D
  /-- `SET 4,E`, `CB E3` (R205) -/
  | set4E
  /-- `SET 4,H`, `CB E4` (R205) -/
  | set4H
  /-- `SET 4,L`, `CB E5` (R205) -/
  | set4L
  /-- `SET 4,(HL)`, `CB E6` (R205) -/
  | set4AtHL
  /-- `SET 4,A`, `CB E7` (R205) -/
  | set4A
  /-- `SET 5,B`, `CB E8` (R205) -/
  | set5B
  /-- `SET 5,C`, `CB E9` (R205) -/
  | set5C
  /-- `SET 5,D`, `CB EA` (R205) -/
  | set5D
  /-- `SET 5,E`, `CB EB` (R205) -/
  | set5E
  /-- `SET 5,H`, `CB EC` (R205) -/
  | set5H
  /-- `SET 5,L`, `CB ED` (R205) -/
  | set5L
  /-- `SET 5,(HL)`, `CB EE` (R205) -/
  | set5AtHL
  /-- `SET 5,A`, `CB EF` (R205) -/
  | set5A
  /-- `SET 6,B`, `CB F0` (R205) -/
  | set6B
  /-- `SET 6,C`, `CB F1` (R205) -/
  | set6C
  /-- `SET 6,D`, `CB F2` (R205) -/
  | set6D
  /-- `SET 6,E`, `CB F3` (R205) -/
  | set6E
  /-- `SET 6,H`, `CB F4` (R205) -/
  | set6H
  /-- `SET 6,L`, `CB F5` (R205) -/
  | set6L
  /-- `SET 6,(HL)`, `CB F6` (R205) -/
  | set6AtHL
  /-- `SET 6,A`, `CB F7` (R205) -/
  | set6A
  /-- `SET 7,B`, `CB F8` (R205) -/
  | set7B
  /-- `SET 7,C`, `CB F9` (R205) -/
  | set7C
  /-- `SET 7,D`, `CB FA` (R205) -/
  | set7D
  /-- `SET 7,E`, `CB FB` (R205) -/
  | set7E
  /-- `SET 7,H`, `CB FC` (R205) -/
  | set7H
  /-- `SET 7,L`, `CB FD` (R205) -/
  | set7L
  /-- `SET 7,(HL)`, `CB FE` (R205) -/
  | set7AtHL
  /-- `SET 7,A`, `CB FF` (R205) -/
  | set7A
deriving DecidableEq, Repr

end Sys2Proof
end

