-- ==== Sys2Proof/Decode.lean ====
section
/-! DEFINITION. Decoding: fields (R92), code tables (R94 to R98), the two opcode tables row by row (R100 to R105), the
length rule and the decode procedure (R93); then the encoder, written from the opcode columns of the same tables. -/

namespace Sys2Proof

/-! ## Fields and code tables -/

/-- Field x, `op[7:6]` (R92). -/
def fieldX (op : Byte) : Fin 4 := (op.extractLsb' 6 2).toFin

/-- Field y, `op[5:3]` (R92). -/
def fieldY (op : Byte) : Fin 8 := (op.extractLsb' 3 3).toFin

/-- Field z, `op[2:0]` (R92). -/
def fieldZ (op : Byte) : Fin 8 := (op.extractLsb' 0 3).toFin

/-- Field p, `op[5:4]` (R92). -/
def fieldP (op : Byte) : Fin 4 := (op.extractLsb' 4 2).toFin

/-- Field q, `op[3]` (R92). -/
def fieldQ (op : Byte) : Bool := op.getLsbD 3

/-- 8-bit operand code `r` (R94). -/
def operandCode : Fin 8 → Operand8
  | 0 => .reg .b
  | 1 => .reg .c
  | 2 => .reg .d
  | 3 => .reg .e
  | 4 => .reg .h
  | 5 => .reg .l
  | 6 => .atHL
  | 7 => .reg .a

/-- Pair code `dd` (R95). -/
def pairCode : Fin 4 → Pair
  | 0 => .bc
  | 1 => .de
  | 2 => .hl
  | 3 => .sp

/-- Pair code `qq` (R96). -/
def stackPairCode : Fin 4 → StackPair
  | 0 => .bc
  | 1 => .de
  | 2 => .hl
  | 3 => .af

/-- Condition code `cc` (R97). -/
def condCode : Fin 4 → Cond
  | 0 => .nz
  | 1 => .z
  | 2 => .nc
  | 3 => .c

/-- Accumulator operation code (R98). -/
def aluCode : Fin 8 → AluOp
  | 0 => .add
  | 1 => .adc
  | 2 => .sub
  | 3 => .sbc
  | 4 => .and
  | 5 => .xor
  | 6 => .or
  | 7 => .cp

/-- Rotate and shift operation code (R98). -/
def rotCode : Fin 8 → RotOp
  | 0 => .rlc
  | 1 => .rrc
  | 2 => .rl
  | 3 => .rr
  | 4 => .sla
  | 5 => .sra
  | 6 => .swap
  | 7 => .srl

/-- Address form of the indirect loads and stores of A, by field p (R100, z = 2). -/
def indirectCode : Fin 4 → IndirectAddr
  | 0 => .bc
  | 1 => .de
  | 2 => .hlInc
  | 3 => .hlDec

/-! ## The rows that a code table selects -/

/-- Row `LD r[y],r[z]` (R101); both operands `(HL)` is the HALT slot. -/
def rowLd : Operand8 → Operand8 → Instr
  | .reg .b, .reg .b => .ldBB
  | .reg .b, .reg .c => .ldBC
  | .reg .b, .reg .d => .ldBD
  | .reg .b, .reg .e => .ldBE
  | .reg .b, .reg .h => .ldBH
  | .reg .b, .reg .l => .ldBL
  | .reg .b, .atHL => .ldBAtHL
  | .reg .b, .reg .a => .ldBA
  | .reg .c, .reg .b => .ldCB
  | .reg .c, .reg .c => .ldCC
  | .reg .c, .reg .d => .ldCD
  | .reg .c, .reg .e => .ldCE
  | .reg .c, .reg .h => .ldCH
  | .reg .c, .reg .l => .ldCL
  | .reg .c, .atHL => .ldCAtHL
  | .reg .c, .reg .a => .ldCA
  | .reg .d, .reg .b => .ldDB
  | .reg .d, .reg .c => .ldDC
  | .reg .d, .reg .d => .ldDD
  | .reg .d, .reg .e => .ldDE
  | .reg .d, .reg .h => .ldDH
  | .reg .d, .reg .l => .ldDL
  | .reg .d, .atHL => .ldDAtHL
  | .reg .d, .reg .a => .ldDA
  | .reg .e, .reg .b => .ldEB
  | .reg .e, .reg .c => .ldEC
  | .reg .e, .reg .d => .ldED
  | .reg .e, .reg .e => .ldEE
  | .reg .e, .reg .h => .ldEH
  | .reg .e, .reg .l => .ldEL
  | .reg .e, .atHL => .ldEAtHL
  | .reg .e, .reg .a => .ldEA
  | .reg .h, .reg .b => .ldHB
  | .reg .h, .reg .c => .ldHC
  | .reg .h, .reg .d => .ldHD
  | .reg .h, .reg .e => .ldHE
  | .reg .h, .reg .h => .ldHH
  | .reg .h, .reg .l => .ldHL
  | .reg .h, .atHL => .ldHAtHL
  | .reg .h, .reg .a => .ldHA
  | .reg .l, .reg .b => .ldLB
  | .reg .l, .reg .c => .ldLC
  | .reg .l, .reg .d => .ldLD
  | .reg .l, .reg .e => .ldLE
  | .reg .l, .reg .h => .ldLH
  | .reg .l, .reg .l => .ldLL
  | .reg .l, .atHL => .ldLAtHL
  | .reg .l, .reg .a => .ldLA
  | .atHL, .reg .b => .ldAtHLB
  | .atHL, .reg .c => .ldAtHLC
  | .atHL, .reg .d => .ldAtHLD
  | .atHL, .reg .e => .ldAtHLE
  | .atHL, .reg .h => .ldAtHLH
  | .atHL, .reg .l => .ldAtHLL
  | .atHL, .atHL => .halt
  | .atHL, .reg .a => .ldAtHLA
  | .reg .a, .reg .b => .ldAB
  | .reg .a, .reg .c => .ldAC
  | .reg .a, .reg .d => .ldAD
  | .reg .a, .reg .e => .ldAE
  | .reg .a, .reg .h => .ldAH
  | .reg .a, .reg .l => .ldAL
  | .reg .a, .atHL => .ldAAtHL
  | .reg .a, .reg .a => .ldAA

/-- Row `LD r[y],d8` (R100, z = 6). -/
def rowLdImm : Operand8 → Byte → Instr
  | .reg .b, d8 => .ldBD8 d8
  | .reg .c, d8 => .ldCD8 d8
  | .reg .d, d8 => .ldDD8 d8
  | .reg .e, d8 => .ldED8 d8
  | .reg .h, d8 => .ldHD8 d8
  | .reg .l, d8 => .ldLD8 d8
  | .atHL, d8 => .ldAtHLD8 d8
  | .reg .a, d8 => .ldAD8 d8

/-- Row `INC r[y]` (R100, z = 4). -/
def rowInc : Operand8 → Instr
  | .reg .b => .incB
  | .reg .c => .incC
  | .reg .d => .incD
  | .reg .e => .incE
  | .reg .h => .incH
  | .reg .l => .incL
  | .atHL => .incAtHL
  | .reg .a => .incA

/-- Row `DEC r[y]` (R100, z = 5). -/
def rowDec : Operand8 → Instr
  | .reg .b => .decB
  | .reg .c => .decC
  | .reg .d => .decD
  | .reg .e => .decE
  | .reg .h => .decH
  | .reg .l => .decL
  | .atHL => .decAtHL
  | .reg .a => .decA

/-- Row `alu[y] r[z]` (R102). -/
def rowAlu : AluOp → Operand8 → Instr
  | .add, .reg .b => .addAB
  | .add, .reg .c => .addAC
  | .add, .reg .d => .addAD
  | .add, .reg .e => .addAE
  | .add, .reg .h => .addAH
  | .add, .reg .l => .addAL
  | .add, .atHL => .addAAtHL
  | .add, .reg .a => .addAA
  | .adc, .reg .b => .adcAB
  | .adc, .reg .c => .adcAC
  | .adc, .reg .d => .adcAD
  | .adc, .reg .e => .adcAE
  | .adc, .reg .h => .adcAH
  | .adc, .reg .l => .adcAL
  | .adc, .atHL => .adcAAtHL
  | .adc, .reg .a => .adcAA
  | .sub, .reg .b => .subB
  | .sub, .reg .c => .subC
  | .sub, .reg .d => .subD
  | .sub, .reg .e => .subE
  | .sub, .reg .h => .subH
  | .sub, .reg .l => .subL
  | .sub, .atHL => .subAtHL
  | .sub, .reg .a => .subA
  | .sbc, .reg .b => .sbcAB
  | .sbc, .reg .c => .sbcAC
  | .sbc, .reg .d => .sbcAD
  | .sbc, .reg .e => .sbcAE
  | .sbc, .reg .h => .sbcAH
  | .sbc, .reg .l => .sbcAL
  | .sbc, .atHL => .sbcAAtHL
  | .sbc, .reg .a => .sbcAA
  | .and, .reg .b => .andB
  | .and, .reg .c => .andC
  | .and, .reg .d => .andD
  | .and, .reg .e => .andE
  | .and, .reg .h => .andH
  | .and, .reg .l => .andL
  | .and, .atHL => .andAtHL
  | .and, .reg .a => .andA
  | .xor, .reg .b => .xorB
  | .xor, .reg .c => .xorC
  | .xor, .reg .d => .xorD
  | .xor, .reg .e => .xorE
  | .xor, .reg .h => .xorH
  | .xor, .reg .l => .xorL
  | .xor, .atHL => .xorAtHL
  | .xor, .reg .a => .xorA
  | .or, .reg .b => .orB
  | .or, .reg .c => .orC
  | .or, .reg .d => .orD
  | .or, .reg .e => .orE
  | .or, .reg .h => .orH
  | .or, .reg .l => .orL
  | .or, .atHL => .orAtHL
  | .or, .reg .a => .orA
  | .cp, .reg .b => .cpB
  | .cp, .reg .c => .cpC
  | .cp, .reg .d => .cpD
  | .cp, .reg .e => .cpE
  | .cp, .reg .h => .cpH
  | .cp, .reg .l => .cpL
  | .cp, .atHL => .cpAtHL
  | .cp, .reg .a => .cpA

/-- Row `alu[y] d8` (R103, z = 6). -/
def rowAluImm : AluOp → Byte → Instr
  | .add, d8 => .addAD8 d8
  | .adc, d8 => .adcAD8 d8
  | .sub, d8 => .subD8 d8
  | .sbc, d8 => .sbcAD8 d8
  | .and, d8 => .andD8 d8
  | .xor, d8 => .xorD8 d8
  | .or, d8 => .orD8 d8
  | .cp, d8 => .cpD8 d8

/-- Row `LD dd[p],d16` (R100, z = 1, q = 0). -/
def rowLdPair : Pair → Word → Instr
  | .bc, d16 => .ldBCD16 d16
  | .de, d16 => .ldDED16 d16
  | .hl, d16 => .ldHLD16 d16
  | .sp, d16 => .ldSPD16 d16

/-- Row `ADD HL,dd[p]` (R100, z = 1, q = 1). -/
def rowAddHL : Pair → Instr
  | .bc => .addHLBC
  | .de => .addHLDE
  | .hl => .addHLHL
  | .sp => .addHLSP

/-- Row `LD (BC),A` to `LD (HL-),A` (R100, z = 2, q = 0). -/
def rowStoreA : IndirectAddr → Instr
  | .bc => .ldAtBCA
  | .de => .ldAtDEA
  | .hlInc => .ldAtHLIncA
  | .hlDec => .ldAtHLDecA

/-- Row `LD A,(BC)` to `LD A,(HL-)` (R100, z = 2, q = 1). -/
def rowLoadA : IndirectAddr → Instr
  | .bc => .ldAAtBC
  | .de => .ldAAtDE
  | .hlInc => .ldAAtHLInc
  | .hlDec => .ldAAtHLDec

/-- Row `INC dd[p]` (R100, z = 3, q = 0). -/
def rowIncPair : Pair → Instr
  | .bc => .incBC
  | .de => .incDE
  | .hl => .incHL
  | .sp => .incSP

/-- Row `DEC dd[p]` (R100, z = 3, q = 1). -/
def rowDecPair : Pair → Instr
  | .bc => .decBC
  | .de => .decDE
  | .hl => .decHL
  | .sp => .decSP

/-- Row `PUSH qq[p]` (R103, z = 5, q = 0). -/
def rowPush : StackPair → Instr
  | .bc => .pushBC
  | .de => .pushDE
  | .hl => .pushHL
  | .af => .pushAF

/-- Row `POP qq[p]` (R103, z = 1, q = 0). -/
def rowPop : StackPair → Instr
  | .bc => .popBC
  | .de => .popDE
  | .hl => .popHL
  | .af => .popAF

/-- Row `JR cc[y-4],e8` (R100, z = 0). -/
def rowJrCond : Cond → Byte → Instr
  | .nz, e8 => .jrNZE8 e8
  | .z, e8 => .jrZE8 e8
  | .nc, e8 => .jrNCE8 e8
  | .c, e8 => .jrCE8 e8

/-- Row `JP cc[y],a16` (R103, z = 2). -/
def rowJpCond : Cond → Word → Instr
  | .nz, a16 => .jpNZA16 a16
  | .z, a16 => .jpZA16 a16
  | .nc, a16 => .jpNCA16 a16
  | .c, a16 => .jpCA16 a16

/-- Row `CALL cc[y],a16` (R103, z = 4). -/
def rowCallCond : Cond → Word → Instr
  | .nz, a16 => .callNZA16 a16
  | .z, a16 => .callZA16 a16
  | .nc, a16 => .callNCA16 a16
  | .c, a16 => .callCA16 a16

/-- Row `RET cc[y]` (R103, z = 0). -/
def rowRetCond : Cond → Instr
  | .nz => .retNZ
  | .z => .retZ
  | .nc => .retNC
  | .c => .retC

/-- Row `RST 8*y` (R103, z = 7). -/
def rowRst : Fin 8 → Instr
  | 0 => .rst00
  | 1 => .rst08
  | 2 => .rst10
  | 3 => .rst18
  | 4 => .rst20
  | 5 => .rst28
  | 6 => .rst30
  | 7 => .rst38

/-- Row `rot[y] r[z]` of the extended table (R104, x = 0). -/
def rowRot : RotOp → Operand8 → Instr
  | .rlc, .reg .b => .rlcB
  | .rlc, .reg .c => .rlcC
  | .rlc, .reg .d => .rlcD
  | .rlc, .reg .e => .rlcE
  | .rlc, .reg .h => .rlcH
  | .rlc, .reg .l => .rlcL
  | .rlc, .atHL => .rlcAtHL
  | .rlc, .reg .a => .rlcA
  | .rrc, .reg .b => .rrcB
  | .rrc, .reg .c => .rrcC
  | .rrc, .reg .d => .rrcD
  | .rrc, .reg .e => .rrcE
  | .rrc, .reg .h => .rrcH
  | .rrc, .reg .l => .rrcL
  | .rrc, .atHL => .rrcAtHL
  | .rrc, .reg .a => .rrcA
  | .rl, .reg .b => .rlB
  | .rl, .reg .c => .rlC
  | .rl, .reg .d => .rlD
  | .rl, .reg .e => .rlE
  | .rl, .reg .h => .rlH
  | .rl, .reg .l => .rlL
  | .rl, .atHL => .rlAtHL
  | .rl, .reg .a => .rlA
  | .rr, .reg .b => .rrB
  | .rr, .reg .c => .rrC
  | .rr, .reg .d => .rrD
  | .rr, .reg .e => .rrE
  | .rr, .reg .h => .rrH
  | .rr, .reg .l => .rrL
  | .rr, .atHL => .rrAtHL
  | .rr, .reg .a => .rrA
  | .sla, .reg .b => .slaB
  | .sla, .reg .c => .slaC
  | .sla, .reg .d => .slaD
  | .sla, .reg .e => .slaE
  | .sla, .reg .h => .slaH
  | .sla, .reg .l => .slaL
  | .sla, .atHL => .slaAtHL
  | .sla, .reg .a => .slaA
  | .sra, .reg .b => .sraB
  | .sra, .reg .c => .sraC
  | .sra, .reg .d => .sraD
  | .sra, .reg .e => .sraE
  | .sra, .reg .h => .sraH
  | .sra, .reg .l => .sraL
  | .sra, .atHL => .sraAtHL
  | .sra, .reg .a => .sraA
  | .swap, .reg .b => .swapB
  | .swap, .reg .c => .swapC
  | .swap, .reg .d => .swapD
  | .swap, .reg .e => .swapE
  | .swap, .reg .h => .swapH
  | .swap, .reg .l => .swapL
  | .swap, .atHL => .swapAtHL
  | .swap, .reg .a => .swapA
  | .srl, .reg .b => .srlB
  | .srl, .reg .c => .srlC
  | .srl, .reg .d => .srlD
  | .srl, .reg .e => .srlE
  | .srl, .reg .h => .srlH
  | .srl, .reg .l => .srlL
  | .srl, .atHL => .srlAtHL
  | .srl, .reg .a => .srlA

/-- Row `BIT y,r[z]` of the extended table (R104, x = 1). -/
def rowBit : Fin 8 → Operand8 → Instr
  | 0, .reg .b => .bit0B
  | 0, .reg .c => .bit0C
  | 0, .reg .d => .bit0D
  | 0, .reg .e => .bit0E
  | 0, .reg .h => .bit0H
  | 0, .reg .l => .bit0L
  | 0, .atHL => .bit0AtHL
  | 0, .reg .a => .bit0A
  | 1, .reg .b => .bit1B
  | 1, .reg .c => .bit1C
  | 1, .reg .d => .bit1D
  | 1, .reg .e => .bit1E
  | 1, .reg .h => .bit1H
  | 1, .reg .l => .bit1L
  | 1, .atHL => .bit1AtHL
  | 1, .reg .a => .bit1A
  | 2, .reg .b => .bit2B
  | 2, .reg .c => .bit2C
  | 2, .reg .d => .bit2D
  | 2, .reg .e => .bit2E
  | 2, .reg .h => .bit2H
  | 2, .reg .l => .bit2L
  | 2, .atHL => .bit2AtHL
  | 2, .reg .a => .bit2A
  | 3, .reg .b => .bit3B
  | 3, .reg .c => .bit3C
  | 3, .reg .d => .bit3D
  | 3, .reg .e => .bit3E
  | 3, .reg .h => .bit3H
  | 3, .reg .l => .bit3L
  | 3, .atHL => .bit3AtHL
  | 3, .reg .a => .bit3A
  | 4, .reg .b => .bit4B
  | 4, .reg .c => .bit4C
  | 4, .reg .d => .bit4D
  | 4, .reg .e => .bit4E
  | 4, .reg .h => .bit4H
  | 4, .reg .l => .bit4L
  | 4, .atHL => .bit4AtHL
  | 4, .reg .a => .bit4A
  | 5, .reg .b => .bit5B
  | 5, .reg .c => .bit5C
  | 5, .reg .d => .bit5D
  | 5, .reg .e => .bit5E
  | 5, .reg .h => .bit5H
  | 5, .reg .l => .bit5L
  | 5, .atHL => .bit5AtHL
  | 5, .reg .a => .bit5A
  | 6, .reg .b => .bit6B
  | 6, .reg .c => .bit6C
  | 6, .reg .d => .bit6D
  | 6, .reg .e => .bit6E
  | 6, .reg .h => .bit6H
  | 6, .reg .l => .bit6L
  | 6, .atHL => .bit6AtHL
  | 6, .reg .a => .bit6A
  | 7, .reg .b => .bit7B
  | 7, .reg .c => .bit7C
  | 7, .reg .d => .bit7D
  | 7, .reg .e => .bit7E
  | 7, .reg .h => .bit7H
  | 7, .reg .l => .bit7L
  | 7, .atHL => .bit7AtHL
  | 7, .reg .a => .bit7A

/-- Row `RES y,r[z]` of the extended table (R104, x = 2). -/
def rowRes : Fin 8 → Operand8 → Instr
  | 0, .reg .b => .res0B
  | 0, .reg .c => .res0C
  | 0, .reg .d => .res0D
  | 0, .reg .e => .res0E
  | 0, .reg .h => .res0H
  | 0, .reg .l => .res0L
  | 0, .atHL => .res0AtHL
  | 0, .reg .a => .res0A
  | 1, .reg .b => .res1B
  | 1, .reg .c => .res1C
  | 1, .reg .d => .res1D
  | 1, .reg .e => .res1E
  | 1, .reg .h => .res1H
  | 1, .reg .l => .res1L
  | 1, .atHL => .res1AtHL
  | 1, .reg .a => .res1A
  | 2, .reg .b => .res2B
  | 2, .reg .c => .res2C
  | 2, .reg .d => .res2D
  | 2, .reg .e => .res2E
  | 2, .reg .h => .res2H
  | 2, .reg .l => .res2L
  | 2, .atHL => .res2AtHL
  | 2, .reg .a => .res2A
  | 3, .reg .b => .res3B
  | 3, .reg .c => .res3C
  | 3, .reg .d => .res3D
  | 3, .reg .e => .res3E
  | 3, .reg .h => .res3H
  | 3, .reg .l => .res3L
  | 3, .atHL => .res3AtHL
  | 3, .reg .a => .res3A
  | 4, .reg .b => .res4B
  | 4, .reg .c => .res4C
  | 4, .reg .d => .res4D
  | 4, .reg .e => .res4E
  | 4, .reg .h => .res4H
  | 4, .reg .l => .res4L
  | 4, .atHL => .res4AtHL
  | 4, .reg .a => .res4A
  | 5, .reg .b => .res5B
  | 5, .reg .c => .res5C
  | 5, .reg .d => .res5D
  | 5, .reg .e => .res5E
  | 5, .reg .h => .res5H
  | 5, .reg .l => .res5L
  | 5, .atHL => .res5AtHL
  | 5, .reg .a => .res5A
  | 6, .reg .b => .res6B
  | 6, .reg .c => .res6C
  | 6, .reg .d => .res6D
  | 6, .reg .e => .res6E
  | 6, .reg .h => .res6H
  | 6, .reg .l => .res6L
  | 6, .atHL => .res6AtHL
  | 6, .reg .a => .res6A
  | 7, .reg .b => .res7B
  | 7, .reg .c => .res7C
  | 7, .reg .d => .res7D
  | 7, .reg .e => .res7E
  | 7, .reg .h => .res7H
  | 7, .reg .l => .res7L
  | 7, .atHL => .res7AtHL
  | 7, .reg .a => .res7A

/-- Row `SET y,r[z]` of the extended table (R104, x = 3). -/
def rowSet : Fin 8 → Operand8 → Instr
  | 0, .reg .b => .set0B
  | 0, .reg .c => .set0C
  | 0, .reg .d => .set0D
  | 0, .reg .e => .set0E
  | 0, .reg .h => .set0H
  | 0, .reg .l => .set0L
  | 0, .atHL => .set0AtHL
  | 0, .reg .a => .set0A
  | 1, .reg .b => .set1B
  | 1, .reg .c => .set1C
  | 1, .reg .d => .set1D
  | 1, .reg .e => .set1E
  | 1, .reg .h => .set1H
  | 1, .reg .l => .set1L
  | 1, .atHL => .set1AtHL
  | 1, .reg .a => .set1A
  | 2, .reg .b => .set2B
  | 2, .reg .c => .set2C
  | 2, .reg .d => .set2D
  | 2, .reg .e => .set2E
  | 2, .reg .h => .set2H
  | 2, .reg .l => .set2L
  | 2, .atHL => .set2AtHL
  | 2, .reg .a => .set2A
  | 3, .reg .b => .set3B
  | 3, .reg .c => .set3C
  | 3, .reg .d => .set3D
  | 3, .reg .e => .set3E
  | 3, .reg .h => .set3H
  | 3, .reg .l => .set3L
  | 3, .atHL => .set3AtHL
  | 3, .reg .a => .set3A
  | 4, .reg .b => .set4B
  | 4, .reg .c => .set4C
  | 4, .reg .d => .set4D
  | 4, .reg .e => .set4E
  | 4, .reg .h => .set4H
  | 4, .reg .l => .set4L
  | 4, .atHL => .set4AtHL
  | 4, .reg .a => .set4A
  | 5, .reg .b => .set5B
  | 5, .reg .c => .set5C
  | 5, .reg .d => .set5D
  | 5, .reg .e => .set5E
  | 5, .reg .h => .set5H
  | 5, .reg .l => .set5L
  | 5, .atHL => .set5AtHL
  | 5, .reg .a => .set5A
  | 6, .reg .b => .set6B
  | 6, .reg .c => .set6C
  | 6, .reg .d => .set6D
  | 6, .reg .e => .set6E
  | 6, .reg .h => .set6H
  | 6, .reg .l => .set6L
  | 6, .atHL => .set6AtHL
  | 6, .reg .a => .set6A
  | 7, .reg .b => .set7B
  | 7, .reg .c => .set7C
  | 7, .reg .d => .set7D
  | 7, .reg .e => .set7E
  | 7, .reg .h => .set7H
  | 7, .reg .l => .set7L
  | 7, .atHL => .set7AtHL
  | 7, .reg .a => .set7A

/-! ## The two tables -/

/-- Base table, x = 0 (R100). `b1` and `b2` are the bytes after the opcode. -/
def decodeX0 (op b1 b2 : Byte) : Instr :=
  match fieldZ op with
  | 0 =>
    match fieldY op with
    | 0 => .nop
    | 1 => .ldAtA16SP (joinBytes b2 b1)
    | 2 => .stop b1
    | 3 => .jrE8 b1
    | 4 => rowJrCond (condCode 0) b1
    | 5 => rowJrCond (condCode 1) b1
    | 6 => rowJrCond (condCode 2) b1
    | 7 => rowJrCond (condCode 3) b1
  | 1 =>
    match fieldQ op with
    | false => rowLdPair (pairCode (fieldP op)) (joinBytes b2 b1)
    | true => rowAddHL (pairCode (fieldP op))
  | 2 =>
    match fieldQ op with
    | false => rowStoreA (indirectCode (fieldP op))
    | true => rowLoadA (indirectCode (fieldP op))
  | 3 =>
    match fieldQ op with
    | false => rowIncPair (pairCode (fieldP op))
    | true => rowDecPair (pairCode (fieldP op))
  | 4 => rowInc (operandCode (fieldY op))
  | 5 => rowDec (operandCode (fieldY op))
  | 6 => rowLdImm (operandCode (fieldY op)) b1
  | 7 =>
    match fieldY op with
    | 0 => .rlca
    | 1 => .rrca
    | 2 => .rla
    | 3 => .rra
    | 4 => .daa
    | 5 => .cpl
    | 6 => .scf
    | 7 => .ccf

/-- The extended table, on the byte after `0xCB` (R104). -/
def decodeExt (op2 : Byte) : Instr :=
  match fieldX op2 with
  | 0 => rowRot (rotCode (fieldY op2)) (operandCode (fieldZ op2))
  | 1 => rowBit (fieldY op2) (operandCode (fieldZ op2))
  | 2 => rowRes (fieldY op2) (operandCode (fieldZ op2))
  | 3 => rowSet (fieldY op2) (operandCode (fieldZ op2))

/-- Base table, x = 3 (R103), the undefined opcodes (R105) and the prefix (R93 step 3) among it. -/
def decodeX3 (op b1 b2 : Byte) : Instr :=
  match fieldZ op with
  | 0 =>
    match fieldY op with
    | 0 => rowRetCond (condCode 0)
    | 1 => rowRetCond (condCode 1)
    | 2 => rowRetCond (condCode 2)
    | 3 => rowRetCond (condCode 3)
    | 4 => .ldhAtA8A b1
    | 5 => .addSPE8 b1
    | 6 => .ldhAAtA8 b1
    | 7 => .ldHLSPE8 b1
  | 1 =>
    match fieldQ op with
    | false => rowPop (stackPairCode (fieldP op))
    | true =>
      match fieldP op with
      | 0 => .ret
      | 1 => .reti
      | 2 => .jpAtHL
      | 3 => .ldSPHL
  | 2 =>
    match fieldY op with
    | 0 => rowJpCond (condCode 0) (joinBytes b2 b1)
    | 1 => rowJpCond (condCode 1) (joinBytes b2 b1)
    | 2 => rowJpCond (condCode 2) (joinBytes b2 b1)
    | 3 => rowJpCond (condCode 3) (joinBytes b2 b1)
    | 4 => .ldAtCA
    | 5 => .ldAtA16A (joinBytes b2 b1)
    | 6 => .ldAAtC
    | 7 => .ldAAtA16 (joinBytes b2 b1)
  | 3 =>
    match fieldY op with
    | 0 => .jpA16 (joinBytes b2 b1)
    | 1 => decodeExt b1
    | 2 => .undefD3
    | 3 => .undefDB
    | 4 => .undefE3
    | 5 => .undefEB
    | 6 => .di
    | 7 => .ei
  | 4 =>
    match fieldY op with
    | 0 => rowCallCond (condCode 0) (joinBytes b2 b1)
    | 1 => rowCallCond (condCode 1) (joinBytes b2 b1)
    | 2 => rowCallCond (condCode 2) (joinBytes b2 b1)
    | 3 => rowCallCond (condCode 3) (joinBytes b2 b1)
    | 4 => .undefE4
    | 5 => .undefEC
    | 6 => .undefF4
    | 7 => .undefFC
  | 5 =>
    match fieldQ op with
    | false => rowPush (stackPairCode (fieldP op))
    | true =>
      match fieldP op with
      | 0 => .callA16 (joinBytes b2 b1)
      | 1 => .undefDD
      | 2 => .undefED
      | 3 => .undefFD
  | 6 => rowAluImm (aluCode (fieldY op)) b1
  | 7 => rowRst (fieldY op)

/-- The instruction whose bytes are `op`, `b1`, `b2`, as many of them as it has (R93). Total: "every byte value is
either an instruction or an undefined opcode, and every second byte after `0xCB` is an instruction". -/
def decodeBytes (op b1 b2 : Byte) : Instr :=
  match fieldX op with
  | 0 => decodeX0 op b1 b2
  | 1 => rowLd (operandCode (fieldY op)) (operandCode (fieldZ op))
  | 2 => rowAlu (aluCode (fieldY op)) (operandCode (fieldZ op))
  | 3 => decodeX3 op b1 b2

/-- "The length of an instruction is a function of its first byte alone" (R93), by the formats of R91. -/
def instrLength (op : Byte) : Nat :=
  match fieldX op, fieldZ op with
  | 0, 0 =>
    match fieldY op with
    | 0 => 1
    | 1 => 3
    | _ => 2
  | 0, 1 => if fieldQ op then 1 else 3
  | 0, 6 => 2
  | 3, 0 => if (fieldY op).val < 4 then 1 else 2
  | 3, 2 =>
    match fieldY op with
    | 4 | 6 => 1
    | _ => 3
  | 3, 3 =>
    match fieldY op with
    | 0 => 3
    | 1 => 2
    | _ => 1
  | 3, 4 => if (fieldY op).val < 4 then 3 else 1
  | 3, 5 => if fieldY op = 1 then 3 else 1
  | 3, 6 => 2
  | _, _ => 1

/-- Why a list of bytes holds no instruction. Memory never ends (R60), so no fetch meets either. -/
inductive DecodeError where
  | noBytes
  | truncated (op : Byte)
deriving DecidableEq, Repr

/-- The instruction at the head of a list of bytes and the bytes after it. -/
def decode : List Byte → Except DecodeError (Instr × List Byte)
  | [] => .error .noBytes
  | op :: rest =>
    if rest.length + 1 < instrLength op then .error (.truncated op)
    else .ok (decodeBytes op (rest.getD 0 0) (rest.getD 1 0), rest.drop (instrLength op - 1))

/-! ## The encoder -/

/-- The bytes of an instruction, the first at the lowest address, from the opcode columns of R100 to R105 and the
operand bytes of R91. -/
def encode : Instr → List Byte
  | .nop => [0x00]
  | .ldBCD16 d16 => [0x01, loByte d16, hiByte d16]
  | .ldAtBCA => [0x02]
  | .incBC => [0x03]
  | .incB => [0x04]
  | .decB => [0x05]
  | .ldBD8 d8 => [0x06, d8]
  | .rlca => [0x07]
  | .ldAtA16SP a16 => [0x08, loByte a16, hiByte a16]
  | .addHLBC => [0x09]
  | .ldAAtBC => [0x0A]
  | .decBC => [0x0B]
  | .incC => [0x0C]
  | .decC => [0x0D]
  | .ldCD8 d8 => [0x0E, d8]
  | .rrca => [0x0F]
  | .stop pad => [0x10, pad]
  | .ldDED16 d16 => [0x11, loByte d16, hiByte d16]
  | .ldAtDEA => [0x12]
  | .incDE => [0x13]
  | .incD => [0x14]
  | .decD => [0x15]
  | .ldDD8 d8 => [0x16, d8]
  | .rla => [0x17]
  | .jrE8 e8 => [0x18, e8]
  | .addHLDE => [0x19]
  | .ldAAtDE => [0x1A]
  | .decDE => [0x1B]
  | .incE => [0x1C]
  | .decE => [0x1D]
  | .ldED8 d8 => [0x1E, d8]
  | .rra => [0x1F]
  | .jrNZE8 e8 => [0x20, e8]
  | .ldHLD16 d16 => [0x21, loByte d16, hiByte d16]
  | .ldAtHLIncA => [0x22]
  | .incHL => [0x23]
  | .incH => [0x24]
  | .decH => [0x25]
  | .ldHD8 d8 => [0x26, d8]
  | .daa => [0x27]
  | .jrZE8 e8 => [0x28, e8]
  | .addHLHL => [0x29]
  | .ldAAtHLInc => [0x2A]
  | .decHL => [0x2B]
  | .incL => [0x2C]
  | .decL => [0x2D]
  | .ldLD8 d8 => [0x2E, d8]
  | .cpl => [0x2F]
  | .jrNCE8 e8 => [0x30, e8]
  | .ldSPD16 d16 => [0x31, loByte d16, hiByte d16]
  | .ldAtHLDecA => [0x32]
  | .incSP => [0x33]
  | .incAtHL => [0x34]
  | .decAtHL => [0x35]
  | .ldAtHLD8 d8 => [0x36, d8]
  | .scf => [0x37]
  | .jrCE8 e8 => [0x38, e8]
  | .addHLSP => [0x39]
  | .ldAAtHLDec => [0x3A]
  | .decSP => [0x3B]
  | .incA => [0x3C]
  | .decA => [0x3D]
  | .ldAD8 d8 => [0x3E, d8]
  | .ccf => [0x3F]
  | .ldBB => [0x40]
  | .ldBC => [0x41]
  | .ldBD => [0x42]
  | .ldBE => [0x43]
  | .ldBH => [0x44]
  | .ldBL => [0x45]
  | .ldBAtHL => [0x46]
  | .ldBA => [0x47]
  | .ldCB => [0x48]
  | .ldCC => [0x49]
  | .ldCD => [0x4A]
  | .ldCE => [0x4B]
  | .ldCH => [0x4C]
  | .ldCL => [0x4D]
  | .ldCAtHL => [0x4E]
  | .ldCA => [0x4F]
  | .ldDB => [0x50]
  | .ldDC => [0x51]
  | .ldDD => [0x52]
  | .ldDE => [0x53]
  | .ldDH => [0x54]
  | .ldDL => [0x55]
  | .ldDAtHL => [0x56]
  | .ldDA => [0x57]
  | .ldEB => [0x58]
  | .ldEC => [0x59]
  | .ldED => [0x5A]
  | .ldEE => [0x5B]
  | .ldEH => [0x5C]
  | .ldEL => [0x5D]
  | .ldEAtHL => [0x5E]
  | .ldEA => [0x5F]
  | .ldHB => [0x60]
  | .ldHC => [0x61]
  | .ldHD => [0x62]
  | .ldHE => [0x63]
  | .ldHH => [0x64]
  | .ldHL => [0x65]
  | .ldHAtHL => [0x66]
  | .ldHA => [0x67]
  | .ldLB => [0x68]
  | .ldLC => [0x69]
  | .ldLD => [0x6A]
  | .ldLE => [0x6B]
  | .ldLH => [0x6C]
  | .ldLL => [0x6D]
  | .ldLAtHL => [0x6E]
  | .ldLA => [0x6F]
  | .ldAtHLB => [0x70]
  | .ldAtHLC => [0x71]
  | .ldAtHLD => [0x72]
  | .ldAtHLE => [0x73]
  | .ldAtHLH => [0x74]
  | .ldAtHLL => [0x75]
  | .halt => [0x76]
  | .ldAtHLA => [0x77]
  | .ldAB => [0x78]
  | .ldAC => [0x79]
  | .ldAD => [0x7A]
  | .ldAE => [0x7B]
  | .ldAH => [0x7C]
  | .ldAL => [0x7D]
  | .ldAAtHL => [0x7E]
  | .ldAA => [0x7F]
  | .addAB => [0x80]
  | .addAC => [0x81]
  | .addAD => [0x82]
  | .addAE => [0x83]
  | .addAH => [0x84]
  | .addAL => [0x85]
  | .addAAtHL => [0x86]
  | .addAA => [0x87]
  | .adcAB => [0x88]
  | .adcAC => [0x89]
  | .adcAD => [0x8A]
  | .adcAE => [0x8B]
  | .adcAH => [0x8C]
  | .adcAL => [0x8D]
  | .adcAAtHL => [0x8E]
  | .adcAA => [0x8F]
  | .subB => [0x90]
  | .subC => [0x91]
  | .subD => [0x92]
  | .subE => [0x93]
  | .subH => [0x94]
  | .subL => [0x95]
  | .subAtHL => [0x96]
  | .subA => [0x97]
  | .sbcAB => [0x98]
  | .sbcAC => [0x99]
  | .sbcAD => [0x9A]
  | .sbcAE => [0x9B]
  | .sbcAH => [0x9C]
  | .sbcAL => [0x9D]
  | .sbcAAtHL => [0x9E]
  | .sbcAA => [0x9F]
  | .andB => [0xA0]
  | .andC => [0xA1]
  | .andD => [0xA2]
  | .andE => [0xA3]
  | .andH => [0xA4]
  | .andL => [0xA5]
  | .andAtHL => [0xA6]
  | .andA => [0xA7]
  | .xorB => [0xA8]
  | .xorC => [0xA9]
  | .xorD => [0xAA]
  | .xorE => [0xAB]
  | .xorH => [0xAC]
  | .xorL => [0xAD]
  | .xorAtHL => [0xAE]
  | .xorA => [0xAF]
  | .orB => [0xB0]
  | .orC => [0xB1]
  | .orD => [0xB2]
  | .orE => [0xB3]
  | .orH => [0xB4]
  | .orL => [0xB5]
  | .orAtHL => [0xB6]
  | .orA => [0xB7]
  | .cpB => [0xB8]
  | .cpC => [0xB9]
  | .cpD => [0xBA]
  | .cpE => [0xBB]
  | .cpH => [0xBC]
  | .cpL => [0xBD]
  | .cpAtHL => [0xBE]
  | .cpA => [0xBF]
  | .retNZ => [0xC0]
  | .popBC => [0xC1]
  | .jpNZA16 a16 => [0xC2, loByte a16, hiByte a16]
  | .jpA16 a16 => [0xC3, loByte a16, hiByte a16]
  | .callNZA16 a16 => [0xC4, loByte a16, hiByte a16]
  | .pushBC => [0xC5]
  | .addAD8 d8 => [0xC6, d8]
  | .rst00 => [0xC7]
  | .retZ => [0xC8]
  | .ret => [0xC9]
  | .jpZA16 a16 => [0xCA, loByte a16, hiByte a16]
  | .prefixCB op2 => [0xCB, op2]
  | .callZA16 a16 => [0xCC, loByte a16, hiByte a16]
  | .callA16 a16 => [0xCD, loByte a16, hiByte a16]
  | .adcAD8 d8 => [0xCE, d8]
  | .rst08 => [0xCF]
  | .retNC => [0xD0]
  | .popDE => [0xD1]
  | .jpNCA16 a16 => [0xD2, loByte a16, hiByte a16]
  | .undefD3 => [0xD3]
  | .callNCA16 a16 => [0xD4, loByte a16, hiByte a16]
  | .pushDE => [0xD5]
  | .subD8 d8 => [0xD6, d8]
  | .rst10 => [0xD7]
  | .retC => [0xD8]
  | .reti => [0xD9]
  | .jpCA16 a16 => [0xDA, loByte a16, hiByte a16]
  | .undefDB => [0xDB]
  | .callCA16 a16 => [0xDC, loByte a16, hiByte a16]
  | .undefDD => [0xDD]
  | .sbcAD8 d8 => [0xDE, d8]
  | .rst18 => [0xDF]
  | .ldhAtA8A a8 => [0xE0, a8]
  | .popHL => [0xE1]
  | .ldAtCA => [0xE2]
  | .undefE3 => [0xE3]
  | .undefE4 => [0xE4]
  | .pushHL => [0xE5]
  | .andD8 d8 => [0xE6, d8]
  | .rst20 => [0xE7]
  | .addSPE8 e8 => [0xE8, e8]
  | .jpAtHL => [0xE9]
  | .ldAtA16A a16 => [0xEA, loByte a16, hiByte a16]
  | .undefEB => [0xEB]
  | .undefEC => [0xEC]
  | .undefED => [0xED]
  | .xorD8 d8 => [0xEE, d8]
  | .rst28 => [0xEF]
  | .ldhAAtA8 a8 => [0xF0, a8]
  | .popAF => [0xF1]
  | .ldAAtC => [0xF2]
  | .di => [0xF3]
  | .undefF4 => [0xF4]
  | .pushAF => [0xF5]
  | .orD8 d8 => [0xF6, d8]
  | .rst30 => [0xF7]
  | .ldHLSPE8 e8 => [0xF8, e8]
  | .ldSPHL => [0xF9]
  | .ldAAtA16 a16 => [0xFA, loByte a16, hiByte a16]
  | .ei => [0xFB]
  | .undefFC => [0xFC]
  | .undefFD => [0xFD]
  | .cpD8 d8 => [0xFE, d8]
  | .rst38 => [0xFF]
  | .rlcB => [0xCB, 0x00]
  | .rlcC => [0xCB, 0x01]
  | .rlcD => [0xCB, 0x02]
  | .rlcE => [0xCB, 0x03]
  | .rlcH => [0xCB, 0x04]
  | .rlcL => [0xCB, 0x05]
  | .rlcAtHL => [0xCB, 0x06]
  | .rlcA => [0xCB, 0x07]
  | .rrcB => [0xCB, 0x08]
  | .rrcC => [0xCB, 0x09]
  | .rrcD => [0xCB, 0x0A]
  | .rrcE => [0xCB, 0x0B]
  | .rrcH => [0xCB, 0x0C]
  | .rrcL => [0xCB, 0x0D]
  | .rrcAtHL => [0xCB, 0x0E]
  | .rrcA => [0xCB, 0x0F]
  | .rlB => [0xCB, 0x10]
  | .rlC => [0xCB, 0x11]
  | .rlD => [0xCB, 0x12]
  | .rlE => [0xCB, 0x13]
  | .rlH => [0xCB, 0x14]
  | .rlL => [0xCB, 0x15]
  | .rlAtHL => [0xCB, 0x16]
  | .rlA => [0xCB, 0x17]
  | .rrB => [0xCB, 0x18]
  | .rrC => [0xCB, 0x19]
  | .rrD => [0xCB, 0x1A]
  | .rrE => [0xCB, 0x1B]
  | .rrH => [0xCB, 0x1C]
  | .rrL => [0xCB, 0x1D]
  | .rrAtHL => [0xCB, 0x1E]
  | .rrA => [0xCB, 0x1F]
  | .slaB => [0xCB, 0x20]
  | .slaC => [0xCB, 0x21]
  | .slaD => [0xCB, 0x22]
  | .slaE => [0xCB, 0x23]
  | .slaH => [0xCB, 0x24]
  | .slaL => [0xCB, 0x25]
  | .slaAtHL => [0xCB, 0x26]
  | .slaA => [0xCB, 0x27]
  | .sraB => [0xCB, 0x28]
  | .sraC => [0xCB, 0x29]
  | .sraD => [0xCB, 0x2A]
  | .sraE => [0xCB, 0x2B]
  | .sraH => [0xCB, 0x2C]
  | .sraL => [0xCB, 0x2D]
  | .sraAtHL => [0xCB, 0x2E]
  | .sraA => [0xCB, 0x2F]
  | .swapB => [0xCB, 0x30]
  | .swapC => [0xCB, 0x31]
  | .swapD => [0xCB, 0x32]
  | .swapE => [0xCB, 0x33]
  | .swapH => [0xCB, 0x34]
  | .swapL => [0xCB, 0x35]
  | .swapAtHL => [0xCB, 0x36]
  | .swapA => [0xCB, 0x37]
  | .srlB => [0xCB, 0x38]
  | .srlC => [0xCB, 0x39]
  | .srlD => [0xCB, 0x3A]
  | .srlE => [0xCB, 0x3B]
  | .srlH => [0xCB, 0x3C]
  | .srlL => [0xCB, 0x3D]
  | .srlAtHL => [0xCB, 0x3E]
  | .srlA => [0xCB, 0x3F]
  | .bit0B => [0xCB, 0x40]
  | .bit0C => [0xCB, 0x41]
  | .bit0D => [0xCB, 0x42]
  | .bit0E => [0xCB, 0x43]
  | .bit0H => [0xCB, 0x44]
  | .bit0L => [0xCB, 0x45]
  | .bit0AtHL => [0xCB, 0x46]
  | .bit0A => [0xCB, 0x47]
  | .bit1B => [0xCB, 0x48]
  | .bit1C => [0xCB, 0x49]
  | .bit1D => [0xCB, 0x4A]
  | .bit1E => [0xCB, 0x4B]
  | .bit1H => [0xCB, 0x4C]
  | .bit1L => [0xCB, 0x4D]
  | .bit1AtHL => [0xCB, 0x4E]
  | .bit1A => [0xCB, 0x4F]
  | .bit2B => [0xCB, 0x50]
  | .bit2C => [0xCB, 0x51]
  | .bit2D => [0xCB, 0x52]
  | .bit2E => [0xCB, 0x53]
  | .bit2H => [0xCB, 0x54]
  | .bit2L => [0xCB, 0x55]
  | .bit2AtHL => [0xCB, 0x56]
  | .bit2A => [0xCB, 0x57]
  | .bit3B => [0xCB, 0x58]
  | .bit3C => [0xCB, 0x59]
  | .bit3D => [0xCB, 0x5A]
  | .bit3E => [0xCB, 0x5B]
  | .bit3H => [0xCB, 0x5C]
  | .bit3L => [0xCB, 0x5D]
  | .bit3AtHL => [0xCB, 0x5E]
  | .bit3A => [0xCB, 0x5F]
  | .bit4B => [0xCB, 0x60]
  | .bit4C => [0xCB, 0x61]
  | .bit4D => [0xCB, 0x62]
  | .bit4E => [0xCB, 0x63]
  | .bit4H => [0xCB, 0x64]
  | .bit4L => [0xCB, 0x65]
  | .bit4AtHL => [0xCB, 0x66]
  | .bit4A => [0xCB, 0x67]
  | .bit5B => [0xCB, 0x68]
  | .bit5C => [0xCB, 0x69]
  | .bit5D => [0xCB, 0x6A]
  | .bit5E => [0xCB, 0x6B]
  | .bit5H => [0xCB, 0x6C]
  | .bit5L => [0xCB, 0x6D]
  | .bit5AtHL => [0xCB, 0x6E]
  | .bit5A => [0xCB, 0x6F]
  | .bit6B => [0xCB, 0x70]
  | .bit6C => [0xCB, 0x71]
  | .bit6D => [0xCB, 0x72]
  | .bit6E => [0xCB, 0x73]
  | .bit6H => [0xCB, 0x74]
  | .bit6L => [0xCB, 0x75]
  | .bit6AtHL => [0xCB, 0x76]
  | .bit6A => [0xCB, 0x77]
  | .bit7B => [0xCB, 0x78]
  | .bit7C => [0xCB, 0x79]
  | .bit7D => [0xCB, 0x7A]
  | .bit7E => [0xCB, 0x7B]
  | .bit7H => [0xCB, 0x7C]
  | .bit7L => [0xCB, 0x7D]
  | .bit7AtHL => [0xCB, 0x7E]
  | .bit7A => [0xCB, 0x7F]
  | .res0B => [0xCB, 0x80]
  | .res0C => [0xCB, 0x81]
  | .res0D => [0xCB, 0x82]
  | .res0E => [0xCB, 0x83]
  | .res0H => [0xCB, 0x84]
  | .res0L => [0xCB, 0x85]
  | .res0AtHL => [0xCB, 0x86]
  | .res0A => [0xCB, 0x87]
  | .res1B => [0xCB, 0x88]
  | .res1C => [0xCB, 0x89]
  | .res1D => [0xCB, 0x8A]
  | .res1E => [0xCB, 0x8B]
  | .res1H => [0xCB, 0x8C]
  | .res1L => [0xCB, 0x8D]
  | .res1AtHL => [0xCB, 0x8E]
  | .res1A => [0xCB, 0x8F]
  | .res2B => [0xCB, 0x90]
  | .res2C => [0xCB, 0x91]
  | .res2D => [0xCB, 0x92]
  | .res2E => [0xCB, 0x93]
  | .res2H => [0xCB, 0x94]
  | .res2L => [0xCB, 0x95]
  | .res2AtHL => [0xCB, 0x96]
  | .res2A => [0xCB, 0x97]
  | .res3B => [0xCB, 0x98]
  | .res3C => [0xCB, 0x99]
  | .res3D => [0xCB, 0x9A]
  | .res3E => [0xCB, 0x9B]
  | .res3H => [0xCB, 0x9C]
  | .res3L => [0xCB, 0x9D]
  | .res3AtHL => [0xCB, 0x9E]
  | .res3A => [0xCB, 0x9F]
  | .res4B => [0xCB, 0xA0]
  | .res4C => [0xCB, 0xA1]
  | .res4D => [0xCB, 0xA2]
  | .res4E => [0xCB, 0xA3]
  | .res4H => [0xCB, 0xA4]
  | .res4L => [0xCB, 0xA5]
  | .res4AtHL => [0xCB, 0xA6]
  | .res4A => [0xCB, 0xA7]
  | .res5B => [0xCB, 0xA8]
  | .res5C => [0xCB, 0xA9]
  | .res5D => [0xCB, 0xAA]
  | .res5E => [0xCB, 0xAB]
  | .res5H => [0xCB, 0xAC]
  | .res5L => [0xCB, 0xAD]
  | .res5AtHL => [0xCB, 0xAE]
  | .res5A => [0xCB, 0xAF]
  | .res6B => [0xCB, 0xB0]
  | .res6C => [0xCB, 0xB1]
  | .res6D => [0xCB, 0xB2]
  | .res6E => [0xCB, 0xB3]
  | .res6H => [0xCB, 0xB4]
  | .res6L => [0xCB, 0xB5]
  | .res6AtHL => [0xCB, 0xB6]
  | .res6A => [0xCB, 0xB7]
  | .res7B => [0xCB, 0xB8]
  | .res7C => [0xCB, 0xB9]
  | .res7D => [0xCB, 0xBA]
  | .res7E => [0xCB, 0xBB]
  | .res7H => [0xCB, 0xBC]
  | .res7L => [0xCB, 0xBD]
  | .res7AtHL => [0xCB, 0xBE]
  | .res7A => [0xCB, 0xBF]
  | .set0B => [0xCB, 0xC0]
  | .set0C => [0xCB, 0xC1]
  | .set0D => [0xCB, 0xC2]
  | .set0E => [0xCB, 0xC3]
  | .set0H => [0xCB, 0xC4]
  | .set0L => [0xCB, 0xC5]
  | .set0AtHL => [0xCB, 0xC6]
  | .set0A => [0xCB, 0xC7]
  | .set1B => [0xCB, 0xC8]
  | .set1C => [0xCB, 0xC9]
  | .set1D => [0xCB, 0xCA]
  | .set1E => [0xCB, 0xCB]
  | .set1H => [0xCB, 0xCC]
  | .set1L => [0xCB, 0xCD]
  | .set1AtHL => [0xCB, 0xCE]
  | .set1A => [0xCB, 0xCF]
  | .set2B => [0xCB, 0xD0]
  | .set2C => [0xCB, 0xD1]
  | .set2D => [0xCB, 0xD2]
  | .set2E => [0xCB, 0xD3]
  | .set2H => [0xCB, 0xD4]
  | .set2L => [0xCB, 0xD5]
  | .set2AtHL => [0xCB, 0xD6]
  | .set2A => [0xCB, 0xD7]
  | .set3B => [0xCB, 0xD8]
  | .set3C => [0xCB, 0xD9]
  | .set3D => [0xCB, 0xDA]
  | .set3E => [0xCB, 0xDB]
  | .set3H => [0xCB, 0xDC]
  | .set3L => [0xCB, 0xDD]
  | .set3AtHL => [0xCB, 0xDE]
  | .set3A => [0xCB, 0xDF]
  | .set4B => [0xCB, 0xE0]
  | .set4C => [0xCB, 0xE1]
  | .set4D => [0xCB, 0xE2]
  | .set4E => [0xCB, 0xE3]
  | .set4H => [0xCB, 0xE4]
  | .set4L => [0xCB, 0xE5]
  | .set4AtHL => [0xCB, 0xE6]
  | .set4A => [0xCB, 0xE7]
  | .set5B => [0xCB, 0xE8]
  | .set5C => [0xCB, 0xE9]
  | .set5D => [0xCB, 0xEA]
  | .set5E => [0xCB, 0xEB]
  | .set5H => [0xCB, 0xEC]
  | .set5L => [0xCB, 0xED]
  | .set5AtHL => [0xCB, 0xEE]
  | .set5A => [0xCB, 0xEF]
  | .set6B => [0xCB, 0xF0]
  | .set6C => [0xCB, 0xF1]
  | .set6D => [0xCB, 0xF2]
  | .set6E => [0xCB, 0xF3]
  | .set6H => [0xCB, 0xF4]
  | .set6L => [0xCB, 0xF5]
  | .set6AtHL => [0xCB, 0xF6]
  | .set6A => [0xCB, 0xF7]
  | .set7B => [0xCB, 0xF8]
  | .set7C => [0xCB, 0xF9]
  | .set7D => [0xCB, 0xFA]
  | .set7E => [0xCB, 0xFB]
  | .set7H => [0xCB, 0xFC]
  | .set7L => [0xCB, 0xFD]
  | .set7AtHL => [0xCB, 0xFE]
  | .set7A => [0xCB, 0xFF]

/-! ## Words numbered as the opcode table numbers them -/

/-- The three bytes, first byte first, of the instruction whose table word is `w`. A row of the extended table is
numbered `{byte 0, byte 1}`: `0xCB` is bits 15:8 (R110). Every other word has its first byte in bits 7:0 and the later
bytes above it. Log entry 8. -/
def tableBytes (nbits w : Nat) : List Byte :=
  let v := w % 2 ^ nbits
  if nbits = 16 ∧ v / 256 = 0xCB then [0xCB, BitVec.ofNat 8 v, 0]
  else [BitVec.ofNat 8 v, BitVec.ofNat 8 (v / 256), BitVec.ofNat 8 (v / 65536)]

/-- The instruction the decoder reads from the table word `w` of `nbits` bits, later bits 0. -/
def decodeTableWord (nbits w : Nat) : Option Instr :=
  match decode (tableBytes nbits w) with
  | .ok (i, _) => some i
  | .error _ => none

end Sys2Proof
end

