-- ==== Sys2Proof/Machine/Rotate.lean ====
section
/-! DEFINITION. The rotates of A and the rotates and shifts of the extended table (spec/44_rotate_shift_bit.md). -/

namespace Sys2Proof.Machine

/-- `RLCA`, `RRCA`, `RLA`, `RRA`: Z, N and HF are cleared (R190 to R193). -/
def rotateA (op : RotOp) (s : State) : Result :=
  let r := rotValue op s.a s.flagC
  .next ((({ s with a := r.1 }).setFlags { z := false, n := false, h := false, c := r.2 }).retire 1 4)

/-- A rotate or shift of the extended table (R194 to R202). -/
def rotateOperand (op : RotOp) (o : Operand8) (s : State) : Result :=
  let r := rotResult op (s.readOperand o) s.flagC
  .next (((s.writeOperand o r.1).setFlags r.2).retire 2 (operandCost o 8 16))

/-- `RLCA`, `07` (R190). -/
def execRlca (s : State) : Result := rotateA .rlc s

/-- `RRCA`, `0F` (R191). -/
def execRrca (s : State) : Result := rotateA .rrc s

/-- `RLA`, `17` (R192). -/
def execRla (s : State) : Result := rotateA .rl s

/-- `RRA`, `1F` (R193). -/
def execRra (s : State) : Result := rotateA .rr s

/-- `RLC B`, `CB 00` (R195). -/
def execRlcB (s : State) : Result := rotateOperand .rlc (.reg .b) s

/-- `RLC C`, `CB 01` (R195). -/
def execRlcC (s : State) : Result := rotateOperand .rlc (.reg .c) s

/-- `RLC D`, `CB 02` (R195). -/
def execRlcD (s : State) : Result := rotateOperand .rlc (.reg .d) s

/-- `RLC E`, `CB 03` (R195). -/
def execRlcE (s : State) : Result := rotateOperand .rlc (.reg .e) s

/-- `RLC H`, `CB 04` (R195). -/
def execRlcH (s : State) : Result := rotateOperand .rlc (.reg .h) s

/-- `RLC L`, `CB 05` (R195). -/
def execRlcL (s : State) : Result := rotateOperand .rlc (.reg .l) s

/-- `RLC (HL)`, `CB 06` (R195). -/
def execRlcAtHL (s : State) : Result := rotateOperand .rlc .atHL s

/-- `RLC A`, `CB 07` (R195). -/
def execRlcA (s : State) : Result := rotateOperand .rlc (.reg .a) s

/-- `RRC B`, `CB 08` (R196). -/
def execRrcB (s : State) : Result := rotateOperand .rrc (.reg .b) s

/-- `RRC C`, `CB 09` (R196). -/
def execRrcC (s : State) : Result := rotateOperand .rrc (.reg .c) s

/-- `RRC D`, `CB 0A` (R196). -/
def execRrcD (s : State) : Result := rotateOperand .rrc (.reg .d) s

/-- `RRC E`, `CB 0B` (R196). -/
def execRrcE (s : State) : Result := rotateOperand .rrc (.reg .e) s

/-- `RRC H`, `CB 0C` (R196). -/
def execRrcH (s : State) : Result := rotateOperand .rrc (.reg .h) s

/-- `RRC L`, `CB 0D` (R196). -/
def execRrcL (s : State) : Result := rotateOperand .rrc (.reg .l) s

/-- `RRC (HL)`, `CB 0E` (R196). -/
def execRrcAtHL (s : State) : Result := rotateOperand .rrc .atHL s

/-- `RRC A`, `CB 0F` (R196). -/
def execRrcA (s : State) : Result := rotateOperand .rrc (.reg .a) s

/-- `RL B`, `CB 10` (R197). -/
def execRlB (s : State) : Result := rotateOperand .rl (.reg .b) s

/-- `RL C`, `CB 11` (R197). -/
def execRlC (s : State) : Result := rotateOperand .rl (.reg .c) s

/-- `RL D`, `CB 12` (R197). -/
def execRlD (s : State) : Result := rotateOperand .rl (.reg .d) s

/-- `RL E`, `CB 13` (R197). -/
def execRlE (s : State) : Result := rotateOperand .rl (.reg .e) s

/-- `RL H`, `CB 14` (R197). -/
def execRlH (s : State) : Result := rotateOperand .rl (.reg .h) s

/-- `RL L`, `CB 15` (R197). -/
def execRlL (s : State) : Result := rotateOperand .rl (.reg .l) s

/-- `RL (HL)`, `CB 16` (R197). -/
def execRlAtHL (s : State) : Result := rotateOperand .rl .atHL s

/-- `RL A`, `CB 17` (R197). -/
def execRlA (s : State) : Result := rotateOperand .rl (.reg .a) s

/-- `RR B`, `CB 18` (R198). -/
def execRrB (s : State) : Result := rotateOperand .rr (.reg .b) s

/-- `RR C`, `CB 19` (R198). -/
def execRrC (s : State) : Result := rotateOperand .rr (.reg .c) s

/-- `RR D`, `CB 1A` (R198). -/
def execRrD (s : State) : Result := rotateOperand .rr (.reg .d) s

/-- `RR E`, `CB 1B` (R198). -/
def execRrE (s : State) : Result := rotateOperand .rr (.reg .e) s

/-- `RR H`, `CB 1C` (R198). -/
def execRrH (s : State) : Result := rotateOperand .rr (.reg .h) s

/-- `RR L`, `CB 1D` (R198). -/
def execRrL (s : State) : Result := rotateOperand .rr (.reg .l) s

/-- `RR (HL)`, `CB 1E` (R198). -/
def execRrAtHL (s : State) : Result := rotateOperand .rr .atHL s

/-- `RR A`, `CB 1F` (R198). -/
def execRrA (s : State) : Result := rotateOperand .rr (.reg .a) s

/-- `SLA B`, `CB 20` (R199). -/
def execSlaB (s : State) : Result := rotateOperand .sla (.reg .b) s

/-- `SLA C`, `CB 21` (R199). -/
def execSlaC (s : State) : Result := rotateOperand .sla (.reg .c) s

/-- `SLA D`, `CB 22` (R199). -/
def execSlaD (s : State) : Result := rotateOperand .sla (.reg .d) s

/-- `SLA E`, `CB 23` (R199). -/
def execSlaE (s : State) : Result := rotateOperand .sla (.reg .e) s

/-- `SLA H`, `CB 24` (R199). -/
def execSlaH (s : State) : Result := rotateOperand .sla (.reg .h) s

/-- `SLA L`, `CB 25` (R199). -/
def execSlaL (s : State) : Result := rotateOperand .sla (.reg .l) s

/-- `SLA (HL)`, `CB 26` (R199). -/
def execSlaAtHL (s : State) : Result := rotateOperand .sla .atHL s

/-- `SLA A`, `CB 27` (R199). -/
def execSlaA (s : State) : Result := rotateOperand .sla (.reg .a) s

/-- `SRA B`, `CB 28` (R200). -/
def execSraB (s : State) : Result := rotateOperand .sra (.reg .b) s

/-- `SRA C`, `CB 29` (R200). -/
def execSraC (s : State) : Result := rotateOperand .sra (.reg .c) s

/-- `SRA D`, `CB 2A` (R200). -/
def execSraD (s : State) : Result := rotateOperand .sra (.reg .d) s

/-- `SRA E`, `CB 2B` (R200). -/
def execSraE (s : State) : Result := rotateOperand .sra (.reg .e) s

/-- `SRA H`, `CB 2C` (R200). -/
def execSraH (s : State) : Result := rotateOperand .sra (.reg .h) s

/-- `SRA L`, `CB 2D` (R200). -/
def execSraL (s : State) : Result := rotateOperand .sra (.reg .l) s

/-- `SRA (HL)`, `CB 2E` (R200). -/
def execSraAtHL (s : State) : Result := rotateOperand .sra .atHL s

/-- `SRA A`, `CB 2F` (R200). -/
def execSraA (s : State) : Result := rotateOperand .sra (.reg .a) s

/-- `SWAP B`, `CB 30` (R201). -/
def execSwapB (s : State) : Result := rotateOperand .swap (.reg .b) s

/-- `SWAP C`, `CB 31` (R201). -/
def execSwapC (s : State) : Result := rotateOperand .swap (.reg .c) s

/-- `SWAP D`, `CB 32` (R201). -/
def execSwapD (s : State) : Result := rotateOperand .swap (.reg .d) s

/-- `SWAP E`, `CB 33` (R201). -/
def execSwapE (s : State) : Result := rotateOperand .swap (.reg .e) s

/-- `SWAP H`, `CB 34` (R201). -/
def execSwapH (s : State) : Result := rotateOperand .swap (.reg .h) s

/-- `SWAP L`, `CB 35` (R201). -/
def execSwapL (s : State) : Result := rotateOperand .swap (.reg .l) s

/-- `SWAP (HL)`, `CB 36` (R201). -/
def execSwapAtHL (s : State) : Result := rotateOperand .swap .atHL s

/-- `SWAP A`, `CB 37` (R201). -/
def execSwapA (s : State) : Result := rotateOperand .swap (.reg .a) s

/-- `SRL B`, `CB 38` (R202). -/
def execSrlB (s : State) : Result := rotateOperand .srl (.reg .b) s

/-- `SRL C`, `CB 39` (R202). -/
def execSrlC (s : State) : Result := rotateOperand .srl (.reg .c) s

/-- `SRL D`, `CB 3A` (R202). -/
def execSrlD (s : State) : Result := rotateOperand .srl (.reg .d) s

/-- `SRL E`, `CB 3B` (R202). -/
def execSrlE (s : State) : Result := rotateOperand .srl (.reg .e) s

/-- `SRL H`, `CB 3C` (R202). -/
def execSrlH (s : State) : Result := rotateOperand .srl (.reg .h) s

/-- `SRL L`, `CB 3D` (R202). -/
def execSrlL (s : State) : Result := rotateOperand .srl (.reg .l) s

/-- `SRL (HL)`, `CB 3E` (R202). -/
def execSrlAtHL (s : State) : Result := rotateOperand .srl .atHL s

/-- `SRL A`, `CB 3F` (R202). -/
def execSrlA (s : State) : Result := rotateOperand .srl (.reg .a) s

end Sys2Proof.Machine
end

