-- ==== Sys2Proof/Machine/Control.lean ====
section
/-! DEFINITION. CPU control, the prefix byte and the undefined opcodes (spec/46_cpu_control.md). -/

namespace Sys2Proof.Machine

/-- `HALT` (R230). -/
def haltMachine (s : State) : Result := .next (({ s with runState := .halted }).retire 1 4)

/-- `STOP`; the padding byte is ignored (R231). -/
def stopMachine (s : State) : Result := .next (({ s with runState := .stopped }).retire 2 4)

/-- `DI` and `EI`: IME changes at once (R232, R233). -/
def setMasterEnable (on : Bool) (s : State) : Result := .next (({ s with ime := on }).retire 1 4)

/-- The prefix byte selects the row of the extended table that the second byte names (R234, R104). -/
def extendedTable (op2 : Byte) (s : State) : Result :=
  match fieldX op2 with
  | 0 => rotateOperand (rotCode (fieldY op2)) (operandCode (fieldZ op2)) s
  | 1 => testBit (fieldY op2) (operandCode (fieldZ op2)) s
  | 2 => resetBit (fieldY op2) (operandCode (fieldZ op2)) s
  | 3 => setBit (fieldY op2) (operandCode (fieldZ op2)) s

/-- An undefined opcode raises the undefined-instruction exception (R235, R262); no cycles are charged. -/
def undefinedOpcode (op : Byte) (s : State) : Result := .next (s.raiseUndefined op)

/-- `STOP`, `10` (R231). -/
def execStop (_pad : Byte) (s : State) : Result := stopMachine s

/-- `HALT`, `76` (R230). -/
def execHalt (s : State) : Result := haltMachine s

/-- `PREFIX CB`, `CB` (R234). -/
def execPrefixCB (op2 : Byte) (s : State) : Result := extendedTable op2 s

/-- undefined opcode `D3` (R235). -/
def execUndefD3 (s : State) : Result := undefinedOpcode 0xD3 s

/-- undefined opcode `DB` (R235). -/
def execUndefDB (s : State) : Result := undefinedOpcode 0xDB s

/-- undefined opcode `DD` (R235). -/
def execUndefDD (s : State) : Result := undefinedOpcode 0xDD s

/-- undefined opcode `E3` (R235). -/
def execUndefE3 (s : State) : Result := undefinedOpcode 0xE3 s

/-- undefined opcode `E4` (R235). -/
def execUndefE4 (s : State) : Result := undefinedOpcode 0xE4 s

/-- undefined opcode `EB` (R235). -/
def execUndefEB (s : State) : Result := undefinedOpcode 0xEB s

/-- undefined opcode `EC` (R235). -/
def execUndefEC (s : State) : Result := undefinedOpcode 0xEC s

/-- undefined opcode `ED` (R235). -/
def execUndefED (s : State) : Result := undefinedOpcode 0xED s

/-- `DI`, `F3` (R232). -/
def execDi (s : State) : Result := setMasterEnable false s

/-- undefined opcode `F4` (R235). -/
def execUndefF4 (s : State) : Result := undefinedOpcode 0xF4 s

/-- `EI`, `FB` (R233). -/
def execEi (s : State) : Result := setMasterEnable true s

/-- undefined opcode `FC` (R235). -/
def execUndefFC (s : State) : Result := undefinedOpcode 0xFC s

/-- undefined opcode `FD` (R235). -/
def execUndefFD (s : State) : Result := undefinedOpcode 0xFD s

end Sys2Proof.Machine
end

