-- ==== Sys2Proof/Machine/IncDec.lean ====
section
/-! DEFINITION. Increment, decrement and 16-bit add (spec/42_incdec_add16.md). -/

namespace Sys2Proof.Machine

/-- `INC rr`: no flag effect (R160). -/
def incPair (p : Pair) (s : State) : Result := .next ((s.setPair p (s.getPair p + 1)).retire 1 8)

/-- `DEC rr`: no flag effect (R161). -/
def decPair (p : Pair) (s : State) : Result := .next ((s.setPair p (s.getPair p - 1)).retire 1 8)

/-- `INC r` and `INC (HL)` (R162, R164). -/
def incOperand (o : Operand8) (s : State) : Result :=
  let r := incByte (s.readOperand o) s.flagC
  .next (((s.writeOperand o r.1).setFlags r.2).retire 1 (operandCost o 4 12))

/-- `DEC r` and `DEC (HL)` (R163, R165). -/
def decOperand (o : Operand8) (s : State) : Result :=
  let r := decByte (s.readOperand o) s.flagC
  .next (((s.writeOperand o r.1).setFlags r.2).retire 1 (operandCost o 4 12))

/-- `ADD HL,rr` (R166). -/
def addToHL (p : Pair) (s : State) : Result :=
  let r := addWords s.hl (s.getPair p) s.flagZ
  .next (((s.setHL r.1).setFlags r.2).retire 1 8)

/-- `ADD SP,e8` (R167). -/
def addToSP (e8 : Byte) (s : State) : Result :=
  let r := addDisplacement s.sp e8
  .next ((({ s with sp := r.1 }).setFlags r.2).retire 2 16)

/-- `INC BC`, `03` (R160). -/
def execIncBC (s : State) : Result := incPair .bc s

/-- `INC B`, `04` (R162). -/
def execIncB (s : State) : Result := incOperand (.reg .b) s

/-- `DEC B`, `05` (R163). -/
def execDecB (s : State) : Result := decOperand (.reg .b) s

/-- `ADD HL,BC`, `09` (R166). -/
def execAddHLBC (s : State) : Result := addToHL .bc s

/-- `DEC BC`, `0B` (R161). -/
def execDecBC (s : State) : Result := decPair .bc s

/-- `INC C`, `0C` (R162). -/
def execIncC (s : State) : Result := incOperand (.reg .c) s

/-- `DEC C`, `0D` (R163). -/
def execDecC (s : State) : Result := decOperand (.reg .c) s

/-- `INC DE`, `13` (R160). -/
def execIncDE (s : State) : Result := incPair .de s

/-- `INC D`, `14` (R162). -/
def execIncD (s : State) : Result := incOperand (.reg .d) s

/-- `DEC D`, `15` (R163). -/
def execDecD (s : State) : Result := decOperand (.reg .d) s

/-- `ADD HL,DE`, `19` (R166). -/
def execAddHLDE (s : State) : Result := addToHL .de s

/-- `DEC DE`, `1B` (R161). -/
def execDecDE (s : State) : Result := decPair .de s

/-- `INC E`, `1C` (R162). -/
def execIncE (s : State) : Result := incOperand (.reg .e) s

/-- `DEC E`, `1D` (R163). -/
def execDecE (s : State) : Result := decOperand (.reg .e) s

/-- `INC HL`, `23` (R160). -/
def execIncHL (s : State) : Result := incPair .hl s

/-- `INC H`, `24` (R162). -/
def execIncH (s : State) : Result := incOperand (.reg .h) s

/-- `DEC H`, `25` (R163). -/
def execDecH (s : State) : Result := decOperand (.reg .h) s

/-- `ADD HL,HL`, `29` (R166). -/
def execAddHLHL (s : State) : Result := addToHL .hl s

/-- `DEC HL`, `2B` (R161). -/
def execDecHL (s : State) : Result := decPair .hl s

/-- `INC L`, `2C` (R162). -/
def execIncL (s : State) : Result := incOperand (.reg .l) s

/-- `DEC L`, `2D` (R163). -/
def execDecL (s : State) : Result := decOperand (.reg .l) s

/-- `INC SP`, `33` (R160). -/
def execIncSP (s : State) : Result := incPair .sp s

/-- `INC (HL)`, `34` (R164). -/
def execIncAtHL (s : State) : Result := incOperand .atHL s

/-- `DEC (HL)`, `35` (R165). -/
def execDecAtHL (s : State) : Result := decOperand .atHL s

/-- `ADD HL,SP`, `39` (R166). -/
def execAddHLSP (s : State) : Result := addToHL .sp s

/-- `DEC SP`, `3B` (R161). -/
def execDecSP (s : State) : Result := decPair .sp s

/-- `INC A`, `3C` (R162). -/
def execIncA (s : State) : Result := incOperand (.reg .a) s

/-- `DEC A`, `3D` (R163). -/
def execDecA (s : State) : Result := decOperand (.reg .a) s

/-- `ADD SP,e8`, `E8` (R167). -/
def execAddSPE8 (e8 : Byte) (s : State) : Result := addToSP e8 s

end Sys2Proof.Machine
end

