-- ==== Sys2Proof/Machine/Jump.lean ====
section
/-! DEFINITION. Jumps, calls and returns (spec/45_jump_call.md). No instruction here writes F. -/

namespace Sys2Proof.Machine

/-- `JR e8` (R211). -/
def jumpRelative (e8 : Byte) (s : State) : Result := .next (s.goto (s.pc + 2 + signExtend16 e8) 12)

/-- `JR cc,e8` (R212). -/
def jumpRelativeIf (cc : Cond) (e8 : Byte) (s : State) : Result :=
  if s.cond cc then jumpRelative e8 s else .next (s.retire 2 8)

/-- `JP a16` (R213). -/
def jumpTo (a16 : Word) (s : State) : Result := .next (s.goto a16 16)

/-- `JP cc,a16` (R214). -/
def jumpIf (cc : Cond) (a16 : Word) (s : State) : Result :=
  if s.cond cc then jumpTo a16 s else .next (s.retire 3 12)

/-- `JP (HL)`: "no memory is read" (R215). -/
def jumpToHL (s : State) : Result := .next (s.goto s.hl 4)

/-- `CALL a16`: the pushed word is the address of the instruction after the CALL (R216). -/
def callTo (a16 : Word) (s : State) : Result := .next ((s.push16 (s.pc + 3)).goto a16 24)

/-- `CALL cc,a16` (R217). -/
def callIf (cc : Cond) (a16 : Word) (s : State) : Result :=
  if s.cond cc then callTo a16 s else .next (s.retire 3 12)

/-- `pc <- Pop16()` at a given cost (R218, R219). -/
def popToPc (n : Nat) (s : State) : Result := .next (s.popped.goto s.popValue n)

/-- `RET` (R218). -/
def returnFromCall (s : State) : Result := popToPc 16 s

/-- `RET cc` (R219). -/
def returnIf (cc : Cond) (s : State) : Result :=
  if s.cond cc then popToPc 20 s else .next (s.retire 1 8)

/-- `RETI` (R220). -/
def returnAndEnable (s : State) : Result := .next ({ s.returnFromInterrupt with cycles := 16 })

/-- `RST t`, with `t = 8 * y` (R221). -/
def restart (y : Fin 8) (s : State) : Result := .next ((s.push16 (s.pc + 1)).goto (8 * BitVec.ofNat 16 y.val) 16)

/-- `JR e8`, `18` (R211). -/
def execJrE8 (e8 : Byte) (s : State) : Result := jumpRelative e8 s

/-- `JR NZ,e8`, `20` (R212). -/
def execJrNZE8 (e8 : Byte) (s : State) : Result := jumpRelativeIf .nz e8 s

/-- `JR Z,e8`, `28` (R212). -/
def execJrZE8 (e8 : Byte) (s : State) : Result := jumpRelativeIf .z e8 s

/-- `JR NC,e8`, `30` (R212). -/
def execJrNCE8 (e8 : Byte) (s : State) : Result := jumpRelativeIf .nc e8 s

/-- `JR C,e8`, `38` (R212). -/
def execJrCE8 (e8 : Byte) (s : State) : Result := jumpRelativeIf .c e8 s

/-- `RET NZ`, `C0` (R219). -/
def execRetNZ (s : State) : Result := returnIf .nz s

/-- `JP NZ,a16`, `C2` (R214). -/
def execJpNZA16 (a16 : Word) (s : State) : Result := jumpIf .nz a16 s

/-- `JP a16`, `C3` (R213). -/
def execJpA16 (a16 : Word) (s : State) : Result := jumpTo a16 s

/-- `CALL NZ,a16`, `C4` (R217). -/
def execCallNZA16 (a16 : Word) (s : State) : Result := callIf .nz a16 s

/-- `RST 0x00`, `C7` (R221). -/
def execRst00 (s : State) : Result := restart 0 s

/-- `RET Z`, `C8` (R219). -/
def execRetZ (s : State) : Result := returnIf .z s

/-- `RET`, `C9` (R218). -/
def execRet (s : State) : Result := returnFromCall s

/-- `JP Z,a16`, `CA` (R214). -/
def execJpZA16 (a16 : Word) (s : State) : Result := jumpIf .z a16 s

/-- `CALL Z,a16`, `CC` (R217). -/
def execCallZA16 (a16 : Word) (s : State) : Result := callIf .z a16 s

/-- `CALL a16`, `CD` (R216). -/
def execCallA16 (a16 : Word) (s : State) : Result := callTo a16 s

/-- `RST 0x08`, `CF` (R221). -/
def execRst08 (s : State) : Result := restart 1 s

/-- `RET NC`, `D0` (R219). -/
def execRetNC (s : State) : Result := returnIf .nc s

/-- `JP NC,a16`, `D2` (R214). -/
def execJpNCA16 (a16 : Word) (s : State) : Result := jumpIf .nc a16 s

/-- `CALL NC,a16`, `D4` (R217). -/
def execCallNCA16 (a16 : Word) (s : State) : Result := callIf .nc a16 s

/-- `RST 0x10`, `D7` (R221). -/
def execRst10 (s : State) : Result := restart 2 s

/-- `RET C`, `D8` (R219). -/
def execRetC (s : State) : Result := returnIf .c s

/-- `RETI`, `D9` (R220). -/
def execReti (s : State) : Result := returnAndEnable s

/-- `JP C,a16`, `DA` (R214). -/
def execJpCA16 (a16 : Word) (s : State) : Result := jumpIf .c a16 s

/-- `CALL C,a16`, `DC` (R217). -/
def execCallCA16 (a16 : Word) (s : State) : Result := callIf .c a16 s

/-- `RST 0x18`, `DF` (R221). -/
def execRst18 (s : State) : Result := restart 3 s

/-- `RST 0x20`, `E7` (R221). -/
def execRst20 (s : State) : Result := restart 4 s

/-- `JP (HL)`, `E9` (R215). -/
def execJpAtHL (s : State) : Result := jumpToHL s

/-- `RST 0x28`, `EF` (R221). -/
def execRst28 (s : State) : Result := restart 5 s

/-- `RST 0x30`, `F7` (R221). -/
def execRst30 (s : State) : Result := restart 6 s

/-- `RST 0x38`, `FF` (R221). -/
def execRst38 (s : State) : Result := restart 7 s

end Sys2Proof.Machine
end

