-- ==== Sys2Proof/Machine/Load16.lean ====
section
/-! DEFINITION. The 16-bit loads and the stack (spec/41_load16_stack.md). Only `LD HL,SP+e8` and `POP AF` write F. -/

namespace Sys2Proof.Machine

/-- `LD rr,d16` (R150). -/
def loadPair (p : Pair) (d16 : Word) (s : State) : Result := .next ((s.setPair p d16).retire 3 12)

/-- `LD (a16),SP` (R151). -/
def storeSP (a16 : Word) (s : State) : Result := .next ((s.write16 a16 s.sp).retire 3 20)

/-- `LD SP,HL` (R152). -/
def loadSPFromHL (s : State) : Result := .next (({ s with sp := s.hl }).retire 1 8)

/-- `LD HL,SP+e8` (R153). -/
def loadHLFromSP (e8 : Byte) (s : State) : Result :=
  let r := addDisplacement s.sp e8
  .next (((s.setHL r.1).setFlags r.2).retire 2 12)

/-- `PUSH qq` (R154). -/
def pushPair (p : StackPair) (s : State) : Result := .next ((s.push16 (s.getStackPair p)).retire 1 16)

/-- `POP qq` and `POP AF` (R155, R156). -/
def popPair (p : StackPair) (s : State) : Result := .next ((s.popped.setStackPair p s.popValue).retire 1 12)

/-- `LD BC,d16`, `01` (R150). -/
def execLdBCD16 (d16 : Word) (s : State) : Result := loadPair .bc d16 s

/-- `LD (a16),SP`, `08` (R151). -/
def execLdAtA16SP (a16 : Word) (s : State) : Result := storeSP a16 s

/-- `LD DE,d16`, `11` (R150). -/
def execLdDED16 (d16 : Word) (s : State) : Result := loadPair .de d16 s

/-- `LD HL,d16`, `21` (R150). -/
def execLdHLD16 (d16 : Word) (s : State) : Result := loadPair .hl d16 s

/-- `LD SP,d16`, `31` (R150). -/
def execLdSPD16 (d16 : Word) (s : State) : Result := loadPair .sp d16 s

/-- `POP BC`, `C1` (R155). -/
def execPopBC (s : State) : Result := popPair .bc s

/-- `PUSH BC`, `C5` (R154). -/
def execPushBC (s : State) : Result := pushPair .bc s

/-- `POP DE`, `D1` (R155). -/
def execPopDE (s : State) : Result := popPair .de s

/-- `PUSH DE`, `D5` (R154). -/
def execPushDE (s : State) : Result := pushPair .de s

/-- `POP HL`, `E1` (R155). -/
def execPopHL (s : State) : Result := popPair .hl s

/-- `PUSH HL`, `E5` (R154). -/
def execPushHL (s : State) : Result := pushPair .hl s

/-- `POP AF`, `F1` (R156). -/
def execPopAF (s : State) : Result := popPair .af s

/-- `PUSH AF`, `F5` (R154). -/
def execPushAF (s : State) : Result := pushPair .af s

/-- `LD HL,SP+e8`, `F8` (R153). -/
def execLdHLSPE8 (e8 : Byte) (s : State) : Result := loadHLFromSP e8 s

/-- `LD SP,HL`, `F9` (R152). -/
def execLdSPHL (s : State) : Result := loadSPFromHL s

end Sys2Proof.Machine
end

