-- ==== Sys2Proof/Machine/Load8.lean ====
section
/-! DEFINITION. NOP and the 8-bit loads and stores (spec/40_load8.md). No instruction here writes F. -/

namespace Sys2Proof.Machine

/-- NOP (R120). -/
def noOperation (s : State) : Result := .next (s.retire 1 4)

/-- Cost of `LD r[y],r[z]`: 4 between registers (R121), 8 with `(HL)` (R123, R124). -/
def loadCost : Operand8 → Operand8 → Nat
  | .reg _, .reg _ => 4
  | .reg _, .atHL => 8
  | .atHL, .reg _ => 8
  | .atHL, .atHL => 8

/-- `LD r,r'`, `LD r,(HL)`, `LD (HL),r` (R121, R123, R124). -/
def loadOperand (dst src : Operand8) (s : State) : Result :=
  .next ((s.writeOperand dst (s.readOperand src)).retire 1 (loadCost dst src))

/-- `LD r,d8`, `LD (HL),d8` (R122, R125). -/
def loadImmediate (dst : Operand8) (d8 : Byte) (s : State) : Result :=
  .next ((s.writeOperand dst d8).retire 2 (operandCost dst 8 12))

/-- Store A through BC, DE, HL+ or HL-; the store uses the old HL (R128 to R131). -/
def storeA (ia : IndirectAddr) (s : State) : Result :=
  .next (((s.write8 (s.indirectAddress ia) s.a).indirectUpdate ia).retire 1 8)

/-- Load A through BC, DE, HL+ or HL-; the load uses the old HL (R126, R127, R132, R133). -/
def loadA (ia : IndirectAddr) (s : State) : Result :=
  .next ((({ s with a := s.read8 (s.indirectAddress ia) }).indirectUpdate ia).retire 1 8)

/-- Store A at an address that the instruction's operand gives (R134, R138). -/
def storeAbsolute (addr len : Word) (n : Nat) (s : State) : Result := .next ((s.write8 addr s.a).retire len n)

/-- Load A from an address that the instruction's operand gives (R135, R139). -/
def loadAbsolute (addr len : Word) (n : Nat) (s : State) : Result :=
  .next (({ s with a := s.read8 addr }).retire len n)

/-- Store A in the high page, indexed by C (R136). -/
def storeHighC (s : State) : Result := storeAbsolute (highPage s.c) 1 8 s

/-- Load A from the high page, indexed by C (R137). -/
def loadHighC (s : State) : Result := loadAbsolute (highPage s.c) 1 8 s

/-- `NOP`, `00` (R120). -/
def execNop (s : State) : Result := noOperation s

/-- `LD (BC),A`, `02` (R128). -/
def execLdAtBCA (s : State) : Result := storeA .bc s

/-- `LD B,d8`, `06` (R122). -/
def execLdBD8 (d8 : Byte) (s : State) : Result := loadImmediate (.reg .b) d8 s

/-- `LD A,(BC)`, `0A` (R126). -/
def execLdAAtBC (s : State) : Result := loadA .bc s

/-- `LD C,d8`, `0E` (R122). -/
def execLdCD8 (d8 : Byte) (s : State) : Result := loadImmediate (.reg .c) d8 s

/-- `LD (DE),A`, `12` (R129). -/
def execLdAtDEA (s : State) : Result := storeA .de s

/-- `LD D,d8`, `16` (R122). -/
def execLdDD8 (d8 : Byte) (s : State) : Result := loadImmediate (.reg .d) d8 s

/-- `LD A,(DE)`, `1A` (R127). -/
def execLdAAtDE (s : State) : Result := loadA .de s

/-- `LD E,d8`, `1E` (R122). -/
def execLdED8 (d8 : Byte) (s : State) : Result := loadImmediate (.reg .e) d8 s

/-- `LD (HL+),A`, `22` (R130). -/
def execLdAtHLIncA (s : State) : Result := storeA .hlInc s

/-- `LD H,d8`, `26` (R122). -/
def execLdHD8 (d8 : Byte) (s : State) : Result := loadImmediate (.reg .h) d8 s

/-- `LD A,(HL+)`, `2A` (R132). -/
def execLdAAtHLInc (s : State) : Result := loadA .hlInc s

/-- `LD L,d8`, `2E` (R122). -/
def execLdLD8 (d8 : Byte) (s : State) : Result := loadImmediate (.reg .l) d8 s

/-- `LD (HL-),A`, `32` (R131). -/
def execLdAtHLDecA (s : State) : Result := storeA .hlDec s

/-- `LD (HL),d8`, `36` (R125). -/
def execLdAtHLD8 (d8 : Byte) (s : State) : Result := loadImmediate .atHL d8 s

/-- `LD A,(HL-)`, `3A` (R133). -/
def execLdAAtHLDec (s : State) : Result := loadA .hlDec s

/-- `LD A,d8`, `3E` (R122). -/
def execLdAD8 (d8 : Byte) (s : State) : Result := loadImmediate (.reg .a) d8 s

/-- `LD B,B`, `40` (R121). -/
def execLdBB (s : State) : Result := loadOperand (.reg .b) (.reg .b) s

/-- `LD B,C`, `41` (R121). -/
def execLdBC (s : State) : Result := loadOperand (.reg .b) (.reg .c) s

/-- `LD B,D`, `42` (R121). -/
def execLdBD (s : State) : Result := loadOperand (.reg .b) (.reg .d) s

/-- `LD B,E`, `43` (R121). -/
def execLdBE (s : State) : Result := loadOperand (.reg .b) (.reg .e) s

/-- `LD B,H`, `44` (R121). -/
def execLdBH (s : State) : Result := loadOperand (.reg .b) (.reg .h) s

/-- `LD B,L`, `45` (R121). -/
def execLdBL (s : State) : Result := loadOperand (.reg .b) (.reg .l) s

/-- `LD B,(HL)`, `46` (R123). -/
def execLdBAtHL (s : State) : Result := loadOperand (.reg .b) .atHL s

/-- `LD B,A`, `47` (R121). -/
def execLdBA (s : State) : Result := loadOperand (.reg .b) (.reg .a) s

/-- `LD C,B`, `48` (R121). -/
def execLdCB (s : State) : Result := loadOperand (.reg .c) (.reg .b) s

/-- `LD C,C`, `49` (R121). -/
def execLdCC (s : State) : Result := loadOperand (.reg .c) (.reg .c) s

/-- `LD C,D`, `4A` (R121). -/
def execLdCD (s : State) : Result := loadOperand (.reg .c) (.reg .d) s

/-- `LD C,E`, `4B` (R121). -/
def execLdCE (s : State) : Result := loadOperand (.reg .c) (.reg .e) s

/-- `LD C,H`, `4C` (R121). -/
def execLdCH (s : State) : Result := loadOperand (.reg .c) (.reg .h) s

/-- `LD C,L`, `4D` (R121). -/
def execLdCL (s : State) : Result := loadOperand (.reg .c) (.reg .l) s

/-- `LD C,(HL)`, `4E` (R123). -/
def execLdCAtHL (s : State) : Result := loadOperand (.reg .c) .atHL s

/-- `LD C,A`, `4F` (R121). -/
def execLdCA (s : State) : Result := loadOperand (.reg .c) (.reg .a) s

/-- `LD D,B`, `50` (R121). -/
def execLdDB (s : State) : Result := loadOperand (.reg .d) (.reg .b) s

/-- `LD D,C`, `51` (R121). -/
def execLdDC (s : State) : Result := loadOperand (.reg .d) (.reg .c) s

/-- `LD D,D`, `52` (R121). -/
def execLdDD (s : State) : Result := loadOperand (.reg .d) (.reg .d) s

/-- `LD D,E`, `53` (R121). -/
def execLdDE (s : State) : Result := loadOperand (.reg .d) (.reg .e) s

/-- `LD D,H`, `54` (R121). -/
def execLdDH (s : State) : Result := loadOperand (.reg .d) (.reg .h) s

/-- `LD D,L`, `55` (R121). -/
def execLdDL (s : State) : Result := loadOperand (.reg .d) (.reg .l) s

/-- `LD D,(HL)`, `56` (R123). -/
def execLdDAtHL (s : State) : Result := loadOperand (.reg .d) .atHL s

/-- `LD D,A`, `57` (R121). -/
def execLdDA (s : State) : Result := loadOperand (.reg .d) (.reg .a) s

/-- `LD E,B`, `58` (R121). -/
def execLdEB (s : State) : Result := loadOperand (.reg .e) (.reg .b) s

/-- `LD E,C`, `59` (R121). -/
def execLdEC (s : State) : Result := loadOperand (.reg .e) (.reg .c) s

/-- `LD E,D`, `5A` (R121). -/
def execLdED (s : State) : Result := loadOperand (.reg .e) (.reg .d) s

/-- `LD E,E`, `5B` (R121). -/
def execLdEE (s : State) : Result := loadOperand (.reg .e) (.reg .e) s

/-- `LD E,H`, `5C` (R121). -/
def execLdEH (s : State) : Result := loadOperand (.reg .e) (.reg .h) s

/-- `LD E,L`, `5D` (R121). -/
def execLdEL (s : State) : Result := loadOperand (.reg .e) (.reg .l) s

/-- `LD E,(HL)`, `5E` (R123). -/
def execLdEAtHL (s : State) : Result := loadOperand (.reg .e) .atHL s

/-- `LD E,A`, `5F` (R121). -/
def execLdEA (s : State) : Result := loadOperand (.reg .e) (.reg .a) s

/-- `LD H,B`, `60` (R121). -/
def execLdHB (s : State) : Result := loadOperand (.reg .h) (.reg .b) s

/-- `LD H,C`, `61` (R121). -/
def execLdHC (s : State) : Result := loadOperand (.reg .h) (.reg .c) s

/-- `LD H,D`, `62` (R121). -/
def execLdHD (s : State) : Result := loadOperand (.reg .h) (.reg .d) s

/-- `LD H,E`, `63` (R121). -/
def execLdHE (s : State) : Result := loadOperand (.reg .h) (.reg .e) s

/-- `LD H,H`, `64` (R121). -/
def execLdHH (s : State) : Result := loadOperand (.reg .h) (.reg .h) s

/-- `LD H,L`, `65` (R121). -/
def execLdHL (s : State) : Result := loadOperand (.reg .h) (.reg .l) s

/-- `LD H,(HL)`, `66` (R123). -/
def execLdHAtHL (s : State) : Result := loadOperand (.reg .h) .atHL s

/-- `LD H,A`, `67` (R121). -/
def execLdHA (s : State) : Result := loadOperand (.reg .h) (.reg .a) s

/-- `LD L,B`, `68` (R121). -/
def execLdLB (s : State) : Result := loadOperand (.reg .l) (.reg .b) s

/-- `LD L,C`, `69` (R121). -/
def execLdLC (s : State) : Result := loadOperand (.reg .l) (.reg .c) s

/-- `LD L,D`, `6A` (R121). -/
def execLdLD (s : State) : Result := loadOperand (.reg .l) (.reg .d) s

/-- `LD L,E`, `6B` (R121). -/
def execLdLE (s : State) : Result := loadOperand (.reg .l) (.reg .e) s

/-- `LD L,H`, `6C` (R121). -/
def execLdLH (s : State) : Result := loadOperand (.reg .l) (.reg .h) s

/-- `LD L,L`, `6D` (R121). -/
def execLdLL (s : State) : Result := loadOperand (.reg .l) (.reg .l) s

/-- `LD L,(HL)`, `6E` (R123). -/
def execLdLAtHL (s : State) : Result := loadOperand (.reg .l) .atHL s

/-- `LD L,A`, `6F` (R121). -/
def execLdLA (s : State) : Result := loadOperand (.reg .l) (.reg .a) s

/-- `LD (HL),B`, `70` (R124). -/
def execLdAtHLB (s : State) : Result := loadOperand .atHL (.reg .b) s

/-- `LD (HL),C`, `71` (R124). -/
def execLdAtHLC (s : State) : Result := loadOperand .atHL (.reg .c) s

/-- `LD (HL),D`, `72` (R124). -/
def execLdAtHLD (s : State) : Result := loadOperand .atHL (.reg .d) s

/-- `LD (HL),E`, `73` (R124). -/
def execLdAtHLE (s : State) : Result := loadOperand .atHL (.reg .e) s

/-- `LD (HL),H`, `74` (R124). -/
def execLdAtHLH (s : State) : Result := loadOperand .atHL (.reg .h) s

/-- `LD (HL),L`, `75` (R124). -/
def execLdAtHLL (s : State) : Result := loadOperand .atHL (.reg .l) s

/-- `LD (HL),A`, `77` (R124). -/
def execLdAtHLA (s : State) : Result := loadOperand .atHL (.reg .a) s

/-- `LD A,B`, `78` (R121). -/
def execLdAB (s : State) : Result := loadOperand (.reg .a) (.reg .b) s

/-- `LD A,C`, `79` (R121). -/
def execLdAC (s : State) : Result := loadOperand (.reg .a) (.reg .c) s

/-- `LD A,D`, `7A` (R121). -/
def execLdAD (s : State) : Result := loadOperand (.reg .a) (.reg .d) s

/-- `LD A,E`, `7B` (R121). -/
def execLdAE (s : State) : Result := loadOperand (.reg .a) (.reg .e) s

/-- `LD A,H`, `7C` (R121). -/
def execLdAH (s : State) : Result := loadOperand (.reg .a) (.reg .h) s

/-- `LD A,L`, `7D` (R121). -/
def execLdAL (s : State) : Result := loadOperand (.reg .a) (.reg .l) s

/-- `LD A,(HL)`, `7E` (R123). -/
def execLdAAtHL (s : State) : Result := loadOperand (.reg .a) .atHL s

/-- `LD A,A`, `7F` (R121). -/
def execLdAA (s : State) : Result := loadOperand (.reg .a) (.reg .a) s

/-- `LDH (a8),A`, `E0` (R134). -/
def execLdhAtA8A (a8 : Byte) (s : State) : Result := storeAbsolute (highPage a8) 2 12 s

/-- `LD (C),A`, `E2` (R136). -/
def execLdAtCA (s : State) : Result := storeHighC s

/-- `LD (a16),A`, `EA` (R138). -/
def execLdAtA16A (a16 : Word) (s : State) : Result := storeAbsolute a16 3 16 s

/-- `LDH A,(a8)`, `F0` (R135). -/
def execLdhAAtA8 (a8 : Byte) (s : State) : Result := loadAbsolute (highPage a8) 2 12 s

/-- `LD A,(C)`, `F2` (R137). -/
def execLdAAtC (s : State) : Result := loadHighC s

/-- `LD A,(a16)`, `FA` (R139). -/
def execLdAAtA16 (a16 : Word) (s : State) : Result := loadAbsolute a16 3 16 s

end Sys2Proof.Machine
end

