-- ==== Sys2Proof/Machine/Interrupt.lean ====
section
/-! DEFINITION. The interrupt controller: the pending set, the priority rule and phase 1 of the step
(spec/60_exceptions.md, R240, R242, R250 to R255). -/

namespace Sys2Proof.Machine

/-- `pend = IF & IE & 0x1F` (R251). -/
def State.pending (s : State) : Byte := s.read8 Config.ifAddr &&& s.read8 Config.ieAddr &&& 0x1F

/-- The least set bit of a non-empty pending set: the source with the highest priority (R253). -/
def leastSource (pend : Byte) : Nat :=
  if pend.getLsbD 0 then 0
  else if pend.getLsbD 1 then 1
  else if pend.getLsbD 2 then 2
  else if pend.getLsbD 3 then 3
  else 4

/-- A Halted machine with a pending enabled source returns to Running, whatever IME is (R242). -/
def State.wake (s : State) : State :=
  if s.runState = .halted ∧ s.pending ≠ 0 then { s with runState := .running } else s

/-- The dispatch condition (R252). -/
def State.dispatches (s : State) : Bool := s.ime && s.pending != 0

/-- Phase 1 of the step: wake, then dispatch at most one interrupt (R240, R255). -/
def State.interruptCheck (s : State) : State :=
  if s.dispatches then s.wake.takeInterrupt (leastSource s.pending) else s.wake

end Sys2Proof.Machine
end

