-- ==== Sys2Proof/Machine/Fetch.lean ====
section
/-! DEFINITION. Instruction fetch (R93, R81), and placing an instruction where the next fetch reads it. -/

namespace Sys2Proof.Machine

/-- The instruction at the pc, its bytes read from the address space, addresses modulo 2^16 (R93, R66). A read has no
side effect (R62), so reading the bytes of the longest instruction cannot be told from reading only those it has. -/
def State.fetch (s : State) : Instr := decodeBytes (s.read8 s.pc) (s.read8 (s.pc + 1)) (s.read8 (s.pc + 2))

/-- Store bytes at `addr`, `addr + 1`, … modulo 2^16. -/
def State.storeBytes (s : State) (addr : Word) : List Byte → State
  | [] => s
  | v :: rest => (s.write8 addr v).storeBytes (addr + 1) rest

/-- The state with the instruction `bytes` at the pc and nothing in the way of its fetch: the machine is Running, the
host lets it run, and IME is cleared where an interrupt would be dispatched first. Log entry 9. -/
def State.placeInstruction (s : State) (bytes : List Byte) : State :=
  let stored := s.storeBytes s.pc bytes
  { stored with running := true, runState := .running, ime := stored.ime && stored.pending == 0 }

end Sys2Proof.Machine
end

