-- ==== Sys2Proof/Machine/Video.lean ====
section
/-! DEFINITION. The video timing engine (spec/60_exceptions.md, R270 to R279): one tick per step, the display modes, the
VBlank interrupt flag and the frame render. -/

namespace Sys2Proof.Machine

/-! ## The pixel buffer -/

/-- The key of the pixel in row `y`, column `x` of `FB`. -/
def pixelKey (y x : Nat) : Nat := 256 * y + x

/-- How many pixels `FB` has: 256 rows of 256 (R35). -/
def pixelCount : Nat := 65536

/-- `FB[y][x]` (R35). -/
def State.pixel (s : State) (y x : Nat) : BitVec 2 := cellGet 0 s.fb (pixelKey y x)

/-- `FB` in canonical form. -/
def FrameBuffer.wf (fb : List (Nat × BitVec 2)) : Bool := cellsWf 0 pixelCount 0 fb

/-- The colour that the presentation layer is handed for a pixel (R278): the open parameter `SHADE` of its index. -/
def State.shadeOf (s : State) (y x : Nat) : Nat := Config.shade (s.pixel y x)

/-- The tile index that the background map gives for the pixel (R278). -/
def tileIndex (bases : BackgroundBases) (m : List Host.Cell) (y x : Nat) : Byte :=
  Memory.read m (bases.map + BitVec.ofNat 16 (32 * (y / 8) + x / 8))

/-- The address of the first byte of the pixel's tile row (R278). -/
def tileRowAddr (bases : BackgroundBases) (m : List Host.Cell) (y x : Nat) : Word :=
  bases.tiles + BitVec.ofNat 16 (16 * (tileIndex bases m y x).toNat + 2 * (y % 8))

/-- The 2-bit palette index of the pixel: the high bit from the second tile byte, the low bit from the first, bit 7 of
each the leftmost pixel (R278). -/
def backgroundPixel (bases : BackgroundBases) (m : List Host.Cell) (y x : Nat) : BitVec 2 :=
  let addr := tileRowAddr bases m y x
  let lo := Memory.read m addr
  let hi := Memory.read m (addr + 1)
  let b := 7 - x % 8
  BitVec.ofBool (hi.getLsbD b) ++ BitVec.ofBool (lo.getLsbD b)

/-- The cells of the keys `k`, `k + 1`, … (`n` of them) whose pixel is not index 0, in rising order. -/
def renderFrom (bases : BackgroundBases) (m : List Host.Cell) (k : Nat) : Nat → List (Nat × BitVec 2)
  | 0 => []
  | n + 1 =>
    let p := backgroundPixel bases m (k / 256) (k % 256)
    if p = 0 then renderFrom bases m (k + 1) n else (k, p) :: renderFrom bases m (k + 1) n

/-- `RenderFrame()` (R278): every pixel of `FB`, from memory as it is now; the frame-render event (R10). -/
def State.renderFrame (s : State) : State :=
  { s with fb := renderFrom s.bgBases s.mem 0 pixelCount, frameEvent := true }

/-! ## The tick -/

/-- `horizontal` (R272). -/
def horizontalOf (clock : Nat) : Nat := clock % Config.clocksPerLine

/-- `vertical` (R272). -/
def verticalOf (clock : Nat) : Nat := clock / Config.clocksPerLine + 1

/-- The display mode number that STAT bits 1:0 record (R42, R275). -/
def displayMode (horizontal vertical : Nat) : Byte :=
  if vertical > Config.visibleLines then 1
  else if horizontal < Config.oamEnd then 2
  else if horizontal < Config.xferEnd then 3
  else 0

/-- Whether the LCD-enable bit, LCDC bit 7, is set (R41). -/
def State.lcdEnabled (s : State) : Bool := (s.read8 Config.lcdcAddr).getLsbD 7

/-- A tick with the display off (R271): the first one after an on-tick resets the counters and clears the pixel buffer, a
later one changes nothing. LY, STAT and IF are not written. -/
def State.displayOffTick (s : State) : State :=
  if s.displayOn then
    { s with internalClock := 0, prevHorizontalClock := 0, prevVerticalClock := 0, fb := [], displayOn := false }
  else s

/-- Write LY (R273) and record the mode in STAT bits 1:0, bits 7:2 unchanged (R275). -/
def State.recordPosition (s : State) (horizontal vertical : Nat) : State :=
  ((s.write8 Config.lyAddr (BitVec.ofNat 8 vertical)).clearFlag Config.statAddr 0x03).setFlag Config.statAddr
    (displayMode horizontal vertical)

/-- Set IF bit 0 when `vertical` crosses from at most 144 to more (R274). -/
def State.raiseVBlank (s : State) (vertical : Nat) : State :=
  if s.prevVerticalClock ≤ Config.visibleLines ∧ vertical > Config.visibleLines then s.setFlag Config.ifAddr 0x01 else s

/-- Render when `vertical` crosses from more than 144 back to less than 144 (R276). -/
def State.renderOnWrap (s : State) (vertical : Nat) : State :=
  if s.prevVerticalClock > Config.visibleLines ∧ vertical < Config.visibleLines then s.renderFrame else s

/-- A tick of `n` machine cycles with the display on (R272 to R277). -/
def State.displayOnTick (s : State) (n : Nat) : State :=
  let clock := (s.internalClock + n) % Config.frameClocks
  let horizontal := horizontalOf clock
  let vertical := verticalOf clock
  let moved := { s with displayOn := true, internalClock := clock }
  let shown := ((moved.recordPosition horizontal vertical).raiseVBlank vertical).renderOnWrap vertical
  { shown with prevHorizontalClock := horizontal, prevVerticalClock := vertical }

/-- `VideoTick(n)` (R270). -/
def State.videoTick (s : State) (n : Nat) : State := if s.lcdEnabled then s.displayOnTick n else s.displayOffTick

end Sys2Proof.Machine
end

