-- ==== Sys2Proof/Machine/Scheduler.lean ====
section
/-! DEFINITION. The Scheduler step (R240): interrupt check, one instruction or one idle slot, clock, video tick, and the
host's turn (R246). -/

namespace Sys2Proof.Machine

/-- A new step has output nothing yet (R10, R247). -/
def State.beginStep (s : State) : State := { s with cyclesOut := none, frameEvent := false }

/-- Phase 3: the per-step counters, the totals and `cycles_out`, for a step of `t` clock cycles (R240, R247, R248). -/
def State.accumulate (s : State) (t : Nat) : State :=
  { s with
    tStep := t
    mStep := t / Config.tPerM
    tTotal := s.tTotal + t
    mTotal := s.mTotal + t / Config.tPerM
    cyclesOut := some t }

/-- What the host's collection of input may do to memory: store JOYP, and set IF bit 4 (R246). -/
def State.collectInput (s : State) (joyp : Option Byte) (raiseJoypad : Bool) : State :=
  let stored := match joyp with
    | none => s
    | some v => s.write8 Config.joypAddr v
  if raiseJoypad then stored.setFlag Config.ifAddr 0x10 else stored

/-- One turn of the host (R246): a turn that samples `running` as false leaves the rest of the state as the last step
made it. -/
def State.applyTurn (s : State) : HostTurn → State
  | .stop => { s with running := false }
  | .collect joyp raiseJoypad => { s.collectInput joyp raiseJoypad with running := true }

/-- The host's turn after a step: the next entry of `hostInput`, or the identity when none is left (R246). -/
def State.hostTurn (s : State) : State :=
  match s.hostInput with
  | [] => s
  | turn :: rest => ({ s with hostInput := rest }).applyTurn turn

/-- The cycles that the step's dispatch adds (R240, R254). -/
def dispatchCost (dispatched : Bool) : Nat := if dispatched then Config.intDispatchT else 0

/-- Phases 3 and 4 and the host's turn, for a step whose instruction or idle slot cost `n` clock cycles (R240). -/
def State.finishStep (s : State) (dispatched : Bool) (n : Nat) : State :=
  let t := n + dispatchCost dispatched
  ((s.accumulate t).videoTick (t / Config.tPerM)).hostTurn

/-- Phase 2 in run-state Running, and what follows it: an undefined opcode ends the step at once, without phases 3 and 4
(R240, R262); the host's turn comes after this step as after each (R246). -/
def State.runInstruction (s : State) (dispatched : Bool) : Result :=
  match exec s.fetch s with
  | .next t => if t.runState = .faulted then .next t.hostTurn else .next (t.finishStep dispatched t.cycles)
  | .fault r => .fault r
  | .refused r => .refused r

/-- The step of a machine that is Running or Halted (R240). -/
def State.activeStep (s : State) : Result :=
  let checked := s.beginStep.interruptCheck
  match checked.runState with
  | .running => checked.runInstruction s.dispatches
  | .halted => .next (checked.finishStep s.dispatches Config.haltIdleT)
  | .stopped => .refused .stopped
  | .faulted => .fault .undefinedInstruction

/-- "A step exists only when `run_state` is Running or Halted" (R240) and the host lets the machine run (R246). -/
def schedulerStep (s : State) : Result :=
  if s.running then
    match s.runState with
    | .running => s.activeStep
    | .halted => s.activeStep
    | .stopped => .refused .stopped
    | .faulted => .fault .undefinedInstruction
  else .refused .hostStopped

end Sys2Proof.Machine
end

