-- ==== Sys2Proof/Machine/Step.lean ====
section
/-! DEFINITION. One step of the machine, and the state in which the next step runs a given instruction. -/

namespace Sys2Proof.Machine

/-- `Step()` (R240). -/
def step (s : State) : Host.Outcome State Fault Refusal := schedulerStep s

/-- The state in which the next step fetches and runs the instruction with table word `w` of `nbits` bits. Log entry 9
says how a program comes to run from `State.reset`. -/
def State.withFetchWord (s : State) (nbits w : Nat) : State := s.placeInstruction (tableBytes nbits w)

end Sys2Proof.Machine
end

