-- ==== Sys2Proof/Machine/Loader.lean ====
section
/-! DEFINITION. The launch memory that the loader leaves, and the reset that is released after a load that succeeded
(R303, R305). -/

namespace Sys2Proof.Machine

/-- Byte i of an image goes to `M[i]`, for i below 65,536 (R305). -/
def loadImageFrom (m : List Host.Cell) (i : Nat) : List Byte → List Host.Cell
  | [] => m
  | v :: rest =>
    loadImageFrom (if i < Config.addressSpaceSize then Memory.write m (BitVec.ofNat 16 i) v else m) (i + 1) rest

/-- `MEM0`: the cartridge first, then the boot image over its first bytes; bytes neither image writes are unlisted
(R305; log entry 1). -/
def launchMemory (cartridge boot : List Byte) : List Host.Cell := loadImageFrom (loadImageFrom [] 0 cartridge) 0 boot

/-- The loader's check of the boot image: exactly 256 bytes, the last one the sentinel (R305). -/
def bootImageAccepted (boot : List Byte) : Bool :=
  boot.length == Config.bootImageSize && boot.getLast? == some Config.bootSentinel

/-- Reset after a load, for every value of the other open parameters. A failed load never releases reset (R305). -/
def launch (regs : ResetRegs) (fb0 : List (Nat × BitVec 2)) (bases : BackgroundBases) (input : List HostTurn)
    (cartridge boot : List Byte) : Option State :=
  if bootImageAccepted boot then some (State.resetWith regs (launchMemory cartridge boot) fb0 bases input) else none

end Sys2Proof.Machine
end

