-- ==== Sys2Proof/WellFormed.lean ====
section
/-! DEFINITION. Which terms of `Instr` are instructions of the machine. -/

namespace Sys2Proof

/-- The prefix byte "is not an instruction of its own: the prefix and the byte after it are one instruction" (R107), so
the PREFIX row alone is not well formed: the words it would stand for are those of an extended row. Every other term is:
an operand is exactly its one or two bytes, "no register-field value is illegal" and the second byte of STOP "may have
any value" (R106). -/
def Instr.wellFormed : Instr → Bool
  | .prefixCB _ => false
  | _ => true

end Sys2Proof
end

