-- ==== Sys2Proof/Safety.lean ====
section
/-! DEFINITION. The terms in which statements about the machine are made: when a step exists, what a clean end and a fault
are, the machine's invariant, and what states agree on. -/

namespace Sys2Proof.Machine

/-- A step exists: Running or Halted (R240), and the host lets the machine run (R246). -/
abbrev State.canStep (s : State) : Prop := s.running = true ∧ (s.runState = .running ∨ s.runState = .halted)

/-- "A model should treat Stopped as the one clean end of a run" (R244). -/
abbrev State.cleanEnd (s : State) : Prop := s.runState = .stopped

/-- No undefined opcode was executed (R245): a run is safe while this holds. -/
abbrev State.safe (s : State) : Prop := s.runState ≠ .faulted

/-- The machine's invariant. -/
structure State.Inv (s : State) : Prop where
  /-- memory is in canonical form (R36, R60) -/
  memory : Memory.wf s.mem = true
  /-- the pixel buffer is in canonical form (R35) -/
  pixels : FrameBuffer.wf s.fb = true
  /-- "range [0, FRAME_CLOCKS)" (R31) -/
  clockRange : s.internalClock < Config.frameClocks
  /-- the previous values are those of the current clock while the display is on (R32, R277) -/
  positionOn : s.displayOn = true →
    s.prevHorizontalClock = horizontalOf s.internalClock ∧ s.prevVerticalClock = verticalOf s.internalClock
  /-- the timing counters are 0 while the display is off (R32, R271) -/
  positionOff : s.displayOn = false →
    s.internalClock = 0 ∧ s.prevHorizontalClock = 0 ∧ s.prevVerticalClock = 0
  /-- "`m_step = t_step / 4` always", and the division is exact (R30, R248) -/
  stepUnits : s.tStep = Config.tPerM * s.mStep
  /-- the totals are in the same proportion (R30, R248) -/
  totalUnits : s.tTotal = Config.tPerM * s.mTotal
  /-- the fault record "is valid only in run-state Faulted" (R29) -/
  faultRecord : s.fault.isSome = true ↔ s.runState = .faulted
  /-- LY holds `vertical` after every step whose last tick found the display on (R43, R273) -/
  scanline : s.runState ≠ .faulted → s.displayOn = true →
    s.read8 Config.lyAddr = BitVec.ofNat 8 s.prevVerticalClock
  /-- STAT bits 1:0 hold the display mode (R42, R275) -/
  mode : s.runState ≠ .faulted → s.displayOn = true →
    s.read8 Config.statAddr &&& 0x03 = displayMode s.prevHorizontalClock s.prevVerticalClock

/-- Both states hold the same value in every register an instruction can name but those in `rs`. -/
abbrev agreeOnRegs (rs : List Reg8) (s t : State) : Prop := ∀ r : Reg8, r ∉ rs → t.get8 r = s.get8 r

/-- Both states read the same byte at every address but those in `addrs`. -/
abbrev agreeOnBytes (addrs : List Word) (s t : State) : Prop := ∀ addr : Word, addr ∉ addrs → t.read8 addr = s.read8 addr

/-- Both states agree on everything that no instruction writes on its own: the clock counters, the video timing engine,
the pixel buffer, the host's side and the outputs (R30, R31 to R35, R246, R247). -/
abbrev agreeOutsideCpu (s t : State) : Prop :=
  t.tStep = s.tStep ∧ t.mStep = s.mStep ∧ t.tTotal = s.tTotal ∧ t.mTotal = s.mTotal ∧
  t.internalClock = s.internalClock ∧ t.prevHorizontalClock = s.prevHorizontalClock ∧
  t.prevVerticalClock = s.prevVerticalClock ∧ t.displayOn = s.displayOn ∧ t.fb = s.fb ∧ t.bgBases = s.bgBases ∧
  t.running = s.running ∧ t.hostInput = s.hostInput ∧ t.cyclesOut = s.cyclesOut ∧ t.frameEvent = s.frameEvent

/-- Both states agree on IME, the run-state and the fault record (R27 to R29). -/
abbrev agreeOnControl (s t : State) : Prop := t.ime = s.ime ∧ t.runState = s.runState ∧ t.fault = s.fault

/-- Both states agree on SP and on the control state. -/
abbrev agreeOnSpAndControl (s t : State) : Prop := t.sp = s.sp ∧ agreeOnControl s t

/-- In `t` the four flags are these (R22). -/
abbrev flagsAre (t : State) (z n h c : Bool) : Prop :=
  t.f.getLsbD 7 = z ∧ t.f.getLsbD 6 = n ∧ t.f.getLsbD 5 = h ∧ t.f.getLsbD 4 = c

/-- `F[3:0]` is the same in both states (R23). -/
abbrev agreeOnLowF (s t : State) : Prop := t.f.extractLsb' 0 4 = s.f.extractLsb' 0 4

/-- Executing `i` in `s` completes: it answers a next state, with the pc at `target`, the cost `n`, everything outside
the CPU as it was, and `post` true of it. -/
abbrev Runs (i : Instr) (s : State) (target : Word) (n : Nat) (post : State → Prop) : Prop :=
  ∃ t, exec i s = .next t ∧ t.pc = target ∧ t.cycles = n ∧ agreeOutsideCpu s t ∧ post t

/-- The register that a form with this destination writes, if any. -/
abbrev operandRegs : Operand8 → List Reg8
  | .reg r => [r]
  | .atHL => []

/-- The address that a form with this destination stores to, if any. -/
abbrev operandBytes (s : State) : Operand8 → List Word
  | .reg _ => []
  | .atHL => [s.hl]

/-- Every form of an accumulator operation (R170): register and memory forms, and the immediate form, with the value
`x` that the form reads. -/
abbrev AluRuns (op : AluOp) (s : State) (post : Byte → State → Prop) : Prop :=
  (∀ o : Operand8, Runs (rowAlu op o) s (s.pc + 1) (operandCost o 4 8) (post (s.readOperand o))) ∧
  (∀ d8 : Byte, Runs (rowAluImm op d8) s (s.pc + 2) 8 (post d8))

/-- Whether a condition holds of a value of F: NZ, Z test bit 7, NC, C test bit 4 (R97, R210). -/
abbrev condOfF (f : Byte) : Cond → Bool
  | .nz => !f.getLsbD 7
  | .z => f.getLsbD 7
  | .nc => !f.getLsbD 4
  | .c => f.getLsbD 4

/-- The byte at `addr` after the word `v` is stored at `at0` and `at0 + 1` (R65). -/
abbrev byteAfterStore16 (s : State) (at0 : Word) (v : Word) (addr : Word) : Byte :=
  if addr = at0 then loByte v else if addr = at0 + 1 then hiByte v else s.read8 addr

/-- The eleven undefined opcodes and their rows (R105). -/
def undefinedRows : List (Byte × Instr) :=
  [(0xD3, .undefD3), (0xDB, .undefDB), (0xDD, .undefDD), (0xE3, .undefE3), (0xE4, .undefE4), (0xEB, .undefEB),
   (0xEC, .undefEC), (0xED, .undefED), (0xF4, .undefF4), (0xFC, .undefFC), (0xFD, .undefFD)]

/-- The instructions that R24 lists as writing SP. -/
inductive WritesSP : Instr → Prop
  | loadImmediate (d16 : Word) : WritesSP (.ldSPD16 d16)
  | loadHL : WritesSP .ldSPHL
  | addDisplacement (e8 : Byte) : WritesSP (.addSPE8 e8)
  | inc : WritesSP .incSP
  | dec : WritesSP .decSP
  | push (p : StackPair) : WritesSP (rowPush p)
  | pop (p : StackPair) : WritesSP (rowPop p)
  | call (a16 : Word) : WritesSP (.callA16 a16)
  | callIf (cc : Cond) (a16 : Word) : WritesSP (rowCallCond cc a16)
  | ret : WritesSP .ret
  | retIf (cc : Cond) : WritesSP (rowRetCond cc)
  | reti : WritesSP .reti
  | rst (y : Fin 8) : WritesSP (rowRst y)

/-- The accumulator operations, in all their forms (R170). -/
inductive IsAccumulatorOp : Instr → Prop
  | operand (op : AluOp) (o : Operand8) : IsAccumulatorOp (rowAlu op o)
  | immediate (op : AluOp) (d8 : Byte) : IsAccumulatorOp (rowAluImm op d8)

/-- The instructions that the table of R48 lists as writing flags. -/
inductive WritesFlags : Instr → Prop
  | accumulator (i : Instr) (h : IsAccumulatorOp i) : WritesFlags i
  | inc (o : Operand8) : WritesFlags (rowInc o)
  | dec (o : Operand8) : WritesFlags (rowDec o)
  | addHL (p : Pair) : WritesFlags (rowAddHL p)
  | addSP (e8 : Byte) : WritesFlags (.addSPE8 e8)
  | loadHLSP (e8 : Byte) : WritesFlags (.ldHLSPE8 e8)
  | rlca : WritesFlags .rlca
  | rrca : WritesFlags .rrca
  | rla : WritesFlags .rla
  | rra : WritesFlags .rra
  | rotate (op : RotOp) (o : Operand8) : WritesFlags (rowRot op o)
  | bit (n : Fin 8) (o : Operand8) : WritesFlags (rowBit n o)
  | daa : WritesFlags .daa
  | cpl : WritesFlags .cpl
  | scf : WritesFlags .scf
  | ccf : WritesFlags .ccf
  | popAF : WritesFlags .popAF

/-- The byte that packs two decimal digits. -/
def bcd (n : Nat) : Byte := BitVec.ofNat 8 (16 * (n / 10) + n % 10)

end Sys2Proof.Machine
end

