-- ==== Sys2Proof/Certificates/Slice0/Obligations.lean ====
section
/-! DEFINITION. The statements for the provers. A result statement has one shape throughout (`Runs`): for every state and
every form, `exec` ANSWERS A NEXT STATE, and of that state it says the result, the pc, the cost, and the frame (what is
unchanged: registers, flags, every byte of memory, control state, everything outside the CPU). -/

open Sys2Proof Sys2Proof.Machine

/-! ## Encoding -/

/-- R90 to R105: decoding an encoded instruction gives it back, with every operand at every value, whatever follows. -/
def Obligations.DecodeReadsBackEncode : Prop :=
  ∀ (i : Instr) (rest : List Byte), i.wellFormed = true → decode (encode i ++ rest) = .ok (i, rest)

/-- R93, R106: every three bytes decode to a well-formed instruction whose encoding is exactly the bytes it has, and no
other well-formed instruction has an encoding that begins them. -/
def Obligations.EncodeReadsBackDecode : Prop :=
  ∀ op b1 b2 : Byte,
    (decodeBytes op b1 b2).wellFormed = true ∧
    encode (decodeBytes op b1 b2) = [op, b1, b2].take (instrLength op) ∧
    ∀ i : Instr, i.wellFormed = true → encode i <+: [op, b1, b2] → i = decodeBytes op b1 b2

/-- R93: the length of an instruction is a function of its first byte alone. -/
def Obligations.LengthIsFunctionOfFirstByte : Prop :=
  ∀ (i j : Instr), (encode i).head? = (encode j).head? →
    (encode i).length = (encode j).length ∧ (encode i).length = instrLength ((encode i).headD 0)

/-- R105: exactly the eleven undefined opcodes decode to an undefined row, and each to its own. -/
def Obligations.UndefinedOpcodesAreExactlyEleven : Prop :=
  ∀ (op b1 b2 : Byte), ((op, decodeBytes op b1 b2) ∈ undefinedRows ↔ op ∈ undefinedRows.map Prod.fst) ∧
    (decodeBytes op b1 b2 ∈ undefinedRows.map Prod.snd ↔ op ∈ undefinedRows.map Prod.fst)

/-- R100 to R104: words written out from the encoding tables decode to the instruction they stand for. -/
def Obligations.TableWordsDecode : Prop :=
  decode [0b01000001] = .ok (.ldBC, []) ∧ decode [0b00111110, 0x45] = .ok (.ldAD8 0x45, []) ∧
  decode [0b00100001, 0x00, 0xC0] = .ok (.ldHLD16 0xC000, []) ∧ decode [0b11110101] = .ok (.pushAF, []) ∧
  decode [0b10011100] = .ok (.sbcAH, []) ∧ decode [0b00101001] = .ok (.addHLHL, []) ∧
  decode [0b11001011, 0b01111100] = .ok (.bit7H, []) ∧ decode [0b11001011, 0b00011110] = .ok (.rrAtHL, []) ∧
  decode [0b00100000, 0xFC] = .ok (.jrNZE8 0xFC, []) ∧ decode [0b11001101, 0x10, 0x00] = .ok (.callA16 0x0010, []) ∧
  decode [0b01110110] = .ok (.halt, []) ∧ decode [0b11011101] = .ok (.undefDD, [])

/-- R107, R234: the prefix and the byte after it are one instruction, the row of the extended table that the byte selects;
the PREFIX row's own meaning is that row's. -/
def Obligations.PrefixRunsExtendedRow : Prop :=
  ∀ (op2 b2 : Byte) (s : State),
    ∃ t, exec (.prefixCB op2) s = .next t ∧ exec (decodeBytes 0xCB op2 b2) s = .next t

/-! ## The step -/

/-- R240, R244, R245, R246: a step exists exactly when the run-state is Running or Halted and the host lets the machine
run. That no step is an answer without a next state is the model's form (log entries 5 and 10). -/
def Obligations.StepExistsExactlyWhenActive : Prop := ∀ s : State, (∃ t, step s = .next t) ↔ s.canStep

/-- R93, R240: when no interrupt is dispatched and the bytes at the pc decode to a well-formed `i`, the step runs `i` and
then the clock, the video tick and the host's turn; an instruction that faults ends the step at once, and only the host's
turn comes after it (R246). -/
def Obligations.StepRunsDecodedInstruction : Prop :=
  ∀ (s : State) (i : Instr) (rest : List Byte),
    s.running = true → s.runState = .running → (s.ime = false ∨ s.pending = 0) → i.wellFormed = true →
    decode [s.read8 s.pc, s.read8 (s.pc + 1), s.read8 (s.pc + 2)] = .ok (i, rest) →
    ∃ t, exec i s.beginStep = .next t ∧
      step s = .next (if t.runState = .faulted then t.hostTurn else t.finishStep false t.cycles)

/-- R240, R255: a step that dispatches an interrupt goes on to run the instruction at the vector; the dispatch adds no
cycles (R254). -/
def Obligations.DispatchStepRunsVectorInstruction : Prop :=
  ∀ s : State, s.canStep → s.ime = true → s.pending ≠ 0 →
    let v := s.beginStep.interruptCheck
    v.pc = 0x0040 + 8 * BitVec.ofNat 16 (leastSource s.pending) ∧
    ∃ t, exec (decodeBytes (v.read8 v.pc) (v.read8 (v.pc + 1)) (v.read8 (v.pc + 2))) v = .next t ∧
      step s = .next (if t.runState = .faulted then t.hostTurn else t.finishStep true t.cycles) ∧
      t.finishStep true t.cycles = t.finishStep false t.cycles

/-- R254, R259: what a dispatch saves and where it goes; every byte of memory, IF among them, and everything else. -/
def Obligations.InterruptEntrySavesPcAndVectors : Prop :=
  ∀ s : State, s.ime = true → s.pending ≠ 0 →
    let t := s.interruptCheck
    let i := leastSource s.pending
    t.pc = 0x0040 + 8 * BitVec.ofNat 16 i ∧ t.ime = false ∧ t.sp = s.sp - 2 ∧
    (∀ addr : Word, addr ≠ 0xFF0F → t.read8 addr = byteAfterStore16 s (s.sp - 2) s.pc addr) ∧
    t.read8 0xFF0F = byteAfterStore16 s (s.sp - 2) s.pc 0xFF0F &&& ~~~((1 : Byte) <<< i) ∧
    agreeOnRegs [] s t ∧ t.f = s.f ∧ t.fault = s.fault ∧ t.cycles = s.cycles ∧ agreeOutsideCpu s t ∧
    t.runState = (if s.runState = .halted then .running else s.runState)

/-- R251, R253: with IME set phase 1 dispatches the least source of the pending set; that source is pending and enabled, no
source of a lower bit number is, and bits 7:5 of IF and IE count for nothing. -/
def Obligations.LowestPendingSourceIsDispatched : Prop :=
  ∀ s : State,
    (∀ k, s.pending.getLsbD k = (decide (k < 5) && (s.read8 0xFF0F).getLsbD k && (s.read8 0xFFFF).getLsbD k)) ∧
    (s.pending ≠ 0 → s.pending.getLsbD (leastSource s.pending) = true ∧
      (∀ j, j < leastSource s.pending → s.pending.getLsbD j = false) ∧
      (s.ime = true → s.interruptCheck = s.wake.takeInterrupt (leastSource s.pending)))

/-- R242, R252: with nothing pending, or with IME clear, nothing is dispatched; a Halted machine wakes exactly when
something is pending, whatever IME is, and nothing else changes. -/
def Obligations.WakeWithoutDispatch : Prop :=
  ∀ s : State, (s.ime = false ∨ s.pending = 0) →
    s.interruptCheck =
      { s with runState := if s.runState = .halted ∧ s.pending ≠ 0 then .running else s.runState }

/-- R243: a step in Halted with nothing pending (the host's turn being the default one). -/
def Obligations.HaltedIdleStepChargesFour : Prop :=
  ∀ s : State, s.running = true → s.runState = .halted → s.pending = 0 → s.hostInput = [] →
    ∃ t, step s = .next t ∧ t.runState = .halted ∧ t.pc = s.pc ∧ t.sp = s.sp ∧ t.ime = s.ime ∧ t.f = s.f ∧
      agreeOnRegs [] s t ∧ t.tStep = 4 ∧ t.mStep = 1 ∧ t.tTotal = s.tTotal + 4 ∧ t.mTotal = s.mTotal + 1 ∧
      t.cyclesOut = some 4 ∧ agreeOnBytes [0xFF44, 0xFF41, 0xFF0F] s t ∧
      ((s.read8 0xFF40).getLsbD 7 = true → t.internalClock = (s.internalClock + 1) % 17556) ∧
      ((s.read8 0xFF40).getLsbD 7 = false → agreeOnBytes [] s t)

/-- R235, R262: an undefined opcode, alone or at the vector of a dispatch of the same step. `t` is the state in which the
step ends at once; the host's turn comes after it as after each step (R246). -/
def Obligations.UndefinedOpcodeEntersFaulted : Prop :=
  ∀ s : State, s.canStep →
    let v := s.beginStep.interruptCheck
    v.runState = .running → v.read8 v.pc ∈ undefinedRows.map Prod.fst →
    ∃ t, step s = .next t.hostTurn ∧ t.runState = .faulted ∧
      t.fault = some { opcode := v.read8 v.pc, addr := v.pc } ∧
      t.pc = v.pc ∧ t.sp = v.sp ∧ t.f = v.f ∧ t.ime = v.ime ∧ agreeOnRegs [] v t ∧ agreeOnBytes [] v t ∧
      t.cyclesOut = none ∧ t.tStep = s.tStep ∧ t.mStep = s.mStep ∧ t.tTotal = s.tTotal ∧ t.mTotal = s.mTotal ∧
      t.internalClock = s.internalClock ∧ t.prevHorizontalClock = s.prevHorizontalClock ∧
      t.prevVerticalClock = s.prevVerticalClock ∧ t.displayOn = s.displayOn ∧ t.fb = s.fb ∧ t.bgBases = s.bgBases ∧
      t.frameEvent = false ∧ t.running = s.running ∧ t.hostInput = s.hostInput

/-- R235: the meaning of each undefined row. -/
def Obligations.UndefinedRowRaisesFault : Prop :=
  ∀ (s : State) (row : Byte × Instr), row ∈ undefinedRows →
    exec row.2 s = .next { s with fault := some { opcode := row.1, addr := s.pc }, runState := .faulted }

/-- R247, R248, R270: the clock after every step that does not end in the fault; a step costs 1 to 6 machine cycles. -/
def Obligations.ClockCountsEveryStep : Prop :=
  ∀ s t : State, step s = .next t → t.runState ≠ .faulted →
    t.tStep = 4 * t.mStep ∧ 1 ≤ t.mStep ∧ t.mStep ≤ 6 ∧ t.tTotal = s.tTotal + t.tStep ∧
    t.mTotal = s.mTotal + t.mStep ∧ t.cyclesOut = some t.tStep

/-- R261: no instruction stops the machine but through the run-state, and each costs 4 to 24 clock cycles; an undefined
opcode charges nothing. -/
def Obligations.EveryInstructionCompletes : Prop :=
  ∀ (i : Instr) (s : State), ∃ t, exec i s = .next t ∧
    (if i ∈ undefinedRows.map Prod.snd then t.cycles = s.cycles
     else t.cycles % 4 = 0 ∧ 4 ≤ t.cycles ∧ t.cycles ≤ 24)

/-- R246: the host's turn. With no input left it is the identity; a turn that samples `running` as false leaves the state
as the last step made it; any other turn stores at most JOYP and sets at most IF bit 4, and leaves every other byte and all
else. Each turn is taken once. The queue of turns is the model's form of `HOST_INPUT` (log entry 5). -/
def Obligations.HostTurnTouchesOnlyJoypad : Prop :=
  ∀ (s : State) (rest : List HostTurn),
    (s.hostInput = [] → s.hostTurn = s) ∧
    (s.hostInput = .stop :: rest → s.hostTurn = { s with running := false, hostInput := rest }) ∧
    ∀ (joyp : Option Byte) (raiseJoypad : Bool), s.hostInput = .collect joyp raiseJoypad :: rest →
      s.hostTurn = { s with running := true, hostInput := rest, mem := s.hostTurn.mem } ∧
      s.hostTurn.read8 0xFF00 = joyp.getD (s.read8 0xFF00) ∧
      s.hostTurn.read8 0xFF0F = (if raiseJoypad then s.read8 0xFF0F ||| 0x10 else s.read8 0xFF0F) ∧
      agreeOnBytes [0xFF00, 0xFF0F] s s.hostTurn

/-- The model's own interface (log entries 8 and 9): in the state that `withFetchWord` makes, the next step runs the instruction that the
decoder reads from the word, whatever the state was. -/
def Obligations.FetchWordRunsNext : Prop :=
  ∀ (s : State) (nbits w : Nat) (i : Instr), decodeTableWord nbits w = some i →
    let r := s.withFetchWord nbits w
    ∃ t, exec i r.beginStep = .next t ∧
      step r = .next (if t.runState = .faulted then t.hostTurn else t.finishStep false t.cycles)

/-! ## Whole-machine rules -/

/-- R27, R28: among the instructions IME changes only by EI, DI and RETI, and the run-state only by HALT, STOP and the
undefined opcodes, which alone write the fault record (R29). -/
def Obligations.OnlyListedInstructionsWriteControlState : Prop :=
  ∀ (i : Instr) (s t : State), exec i s = .next t →
    (t.ime ≠ s.ime → i = .ei ∨ i = .di ∨ i = .reti) ∧
    (t.runState ≠ s.runState → i = .halt ∨ (∃ pad, i = .stop pad) ∨ i ∈ undefinedRows.map Prod.snd) ∧
    (t.fault ≠ s.fault → i ∈ undefinedRows.map Prod.snd)

/-- R24: SP changes only by the instructions that R24 lists. -/
def Obligations.OnlyListedInstructionsWriteSP : Prop :=
  ∀ (i : Instr) (s t : State), exec i s = .next t → t.sp ≠ s.sp → WritesSP i

/-- R48: "No other instruction writes or reads F". -/
def Obligations.OnlyListedInstructionsWriteFlags : Prop :=
  ∀ (i : Instr) (s t : State), i.wellFormed = true → exec i s = .next t → t.f ≠ s.f → WritesFlags i

/-- R23: F[3:0] is written in exactly two ways. -/
def Obligations.LowFlagBitsWrittenInTwoWays : Prop :=
  ∀ (i : Instr) (s t : State), exec i s = .next t →
    (IsAccumulatorOp i → t.f.extractLsb' 0 4 = 0) ∧
    (i = .popAF → t.f = s.read8 s.sp) ∧
    (¬ IsAccumulatorOp i → i ≠ .popAF → agreeOnLowF s t)

/-! ## The invariant -/

/-- The invariant holds after reset, with the values that the model chose (log entries 1 to 4). -/
def Obligations.ResetStateMeetsInvariant : Prop := State.reset.Inv

/-- Every step keeps the invariant: memory and the pixel buffer stay canonical, the frame clock stays in its range, the
previous values follow it, the counters keep their proportion, the fault record is there exactly in Faulted, and LY and
STAT show the position. -/
def Obligations.StepKeepsInvariant : Prop := ∀ s t : State, s.Inv → step s = .next t → t.Inv

/-- R47, R301, R302, R303, R304: what reset leaves, for every value of the open parameters. -/
def Obligations.ResetValues : Prop :=
  ∀ (regs : ResetRegs) (mem0 : List Host.Cell) (fb0 : List (Nat × BitVec 2)) (bases : BackgroundBases)
    (input : List HostTurn),
    let r := State.resetWith regs mem0 fb0 bases input
    r.pc = 0x0000 ∧ r.ime = false ∧ r.runState = .running ∧ r.fault = none ∧ r.tStep = 0 ∧ r.mStep = 0 ∧
    r.tTotal = 0 ∧ r.mTotal = 0 ∧ r.internalClock = 0 ∧ r.prevHorizontalClock = 0 ∧ r.prevVerticalClock = 0 ∧
    r.displayOn = false ∧ r.running = true ∧ r.fb = fb0 ∧ r.bgBases = bases ∧ r.hostInput = input ∧
    (∀ addr, r.read8 addr = Memory.read mem0 addr) ∧
    r.a = regs.a ∧ r.f = regs.f ∧ r.b = regs.b ∧ r.c = regs.c ∧ r.d = regs.d ∧ r.e = regs.e ∧ r.h = regs.h ∧
    r.l = regs.l ∧ r.sp = regs.sp ∧ r.fetch = decodeBytes (Memory.read mem0 0) (Memory.read mem0 1) (Memory.read mem0 2)

/-- R305: the boot image lies over the first bytes of the cartridge; reset is released exactly after a load that
succeeded, with that memory and every value of the other open parameters. What a byte of neither image reads as is the model's choice (log entry 1). -/
def Obligations.LaunchMemoryOverlaysBootImage : Prop :=
  ∀ (regs : ResetRegs) (fb0 : List (Nat × BitVec 2)) (bases : BackgroundBases) (input : List HostTurn)
    (cartridge boot : List Byte) (i : Nat), i < 65536 →
    Memory.read (launchMemory cartridge boot) (BitVec.ofNat 16 i) =
      (if i < boot.length then boot.getD i 0 else if i < cartridge.length then cartridge.getD i 0
       else Config.unlistedByte) ∧
    launch regs fb0 bases input cartridge boot =
      (if boot.length = 256 ∧ boot.getD 255 0 = 0x50
       then some (State.resetWith regs (launchMemory cartridge boot) fb0 bases input) else none)

/-! ## Memory -/

/-- R64, R65, R66, R70: a word store puts the low byte at the address and the high byte at the next, modulo 2^16, leaves
every other byte, and reads back. -/
def Obligations.WordStoreIsLittleEndian : Prop :=
  ∀ (s : State) (addr v : Word),
    (s.write16 addr v).read8 addr = v.setWidth 8 ∧ (s.write16 addr v).read8 (addr + 1) = (v >>> 8).setWidth 8 ∧
    agreeOnBytes [addr, addr + 1] s (s.write16 addr v) ∧ (s.write16 addr v).read16 addr = v

/-! ## The video timing engine -/

/-- R272, R273, R275, R277: the position after every step that ends with the display on. -/
def Obligations.DisplayPositionAfterStep : Prop :=
  ∀ s t : State, step s = .next t → t.runState ≠ .faulted → (t.read8 0xFF40).getLsbD 7 = true →
    let horizontal := t.internalClock % 114
    let vertical := t.internalClock / 114 + 1
    t.displayOn = true ∧ t.internalClock = (s.internalClock + t.mStep) % 17556 ∧
    1 ≤ vertical ∧ vertical ≤ 154 ∧ (t.read8 0xFF44).toNat = vertical ∧
    t.prevHorizontalClock = horizontal ∧ t.prevVerticalClock = vertical ∧
    (t.read8 0xFF41 &&& 0x03).toNat =
      (if vertical > 144 then 1 else if horizontal < 21 then 2 else if horizontal < 64 then 3 else 0)

/-- R256, R273 to R276: every byte of memory after a tick with the display on, and the pixel buffer: on the crossing back
to the visible lines it is what the frame render makes of memory as it is at the end of the step (R278). -/
def Obligations.DisplayOnTickMemory : Prop :=
  ∀ (s : State) (n : Nat), (s.read8 0xFF40).getLsbD 7 = true →
    let t := s.videoTick n
    let clock := (s.internalClock + n) % 17556
    let horizontal := clock % 114
    let vertical := clock / 114 + 1
    agreeOnBytes [0xFF0F, 0xFF41, 0xFF44] s t ∧ t.bgBases = s.bgBases ∧
    (t.read8 0xFF44).toNat = vertical ∧
    (t.read8 0xFF41 &&& 0xFC) = (s.read8 0xFF41 &&& 0xFC) ∧
    (t.read8 0xFF41 &&& 0x03).toNat =
      (if vertical > 144 then 1 else if horizontal < 21 then 2 else if horizontal < 64 then 3 else 0) ∧
    t.read8 0xFF0F =
      (if s.prevVerticalClock ≤ 144 ∧ vertical > 144 then s.read8 0xFF0F ||| 0x01 else s.read8 0xFF0F) ∧
    (¬ (s.prevVerticalClock > 144 ∧ vertical < 144) → t.fb = s.fb ∧ t.frameEvent = s.frameEvent) ∧
    (s.prevVerticalClock > 144 ∧ vertical < 144 → t.fb = t.renderFrame.fb ∧ t.frameEvent = true)

/-- R278: what a frame render leaves in every pixel, for every value of the two base addresses (open parameters, R6), and
that it writes nothing but the pixel buffer (and the model's own render event, log entry 14). -/
def Obligations.FrameRenderDecodesBackground : Prop :=
  ∀ (s : State) (y x : Nat), y < 256 → x < 256 →
    let idx := s.read8 (s.bgBases.map + BitVec.ofNat 16 (32 * (y / 8) + x / 8))
    let addr : Word := s.bgBases.tiles + BitVec.ofNat 16 (16 * idx.toNat + 2 * (y % 8))
    let b := 7 - x % 8
    (s.renderFrame.pixel y x).getLsbD 0 = (s.read8 addr).getLsbD b ∧
    (s.renderFrame.pixel y x).getLsbD 1 = (s.read8 (addr + 1)).getLsbD b ∧
    s.renderFrame = { s with fb := s.renderFrame.fb, frameEvent := true }

/-- R271: the transition into display-off, and that a second off-tick changes nothing. -/
def Obligations.DisplayOffClearsOnce : Prop :=
  ∀ (s : State) (n m : Nat), (s.read8 0xFF40).getLsbD 7 = false →
    let t := s.videoTick n
    agreeOnBytes [] s t ∧ t.bgBases = s.bgBases ∧ t.displayOn = false ∧ t.videoTick m = t ∧ (s.displayOn = false → t = s) ∧
    (s.displayOn = true → t.internalClock = 0 ∧ t.prevHorizontalClock = 0 ∧ t.prevVerticalClock = 0 ∧
      ∀ y x, t.pixel y x = 0)

/-- R274, scenario 4: from frame position 0, ticks of 1 to 6 machine cycles that total exactly 114 x 144 reach line 145 and
set the VBlank bit, and no earlier tick changes IF. -/
def Obligations.VBlankAfterExactlyVisibleLines : Prop :=
  ∀ (s : State) (ns : List Nat), (s.read8 0xFF40).getLsbD 7 = true → s.internalClock = 0 →
    s.prevVerticalClock ≤ 144 → (∀ n ∈ ns, 1 ≤ n ∧ n ≤ 6) → ns.sum = 114 * 144 →
    let t := ns.foldl State.videoTick s
    verticalOf t.internalClock = 145 ∧ t.read8 0xFF44 = 145 ∧ (t.read8 0xFF0F).getLsbD 0 = true ∧
    ∀ ms, ms <+: ns → ms ≠ ns → (ms.foldl State.videoTick s).read8 0xFF0F = s.read8 0xFF0F

/-! ## The 8-bit loads and stores -/

/-- R121, R123, R124. -/
def Obligations.LoadBetweenOperands : Prop :=
  ∀ s : State,
    (∀ dst src : Reg8, Runs (rowLd (.reg dst) (.reg src)) s (s.pc + 1) 4 fun t =>
      t.get8 dst = s.get8 src ∧ agreeOnRegs [dst] s t ∧ t.f = s.f ∧ agreeOnBytes [] s t ∧ agreeOnSpAndControl s t) ∧
    (∀ dst : Reg8, Runs (rowLd (.reg dst) .atHL) s (s.pc + 1) 8 fun t =>
      t.get8 dst = s.read8 s.hl ∧ agreeOnRegs [dst] s t ∧ t.f = s.f ∧ agreeOnBytes [] s t ∧ agreeOnSpAndControl s t) ∧
    (∀ src : Reg8, Runs (rowLd .atHL (.reg src)) s (s.pc + 1) 8 fun t =>
      t.read8 s.hl = s.get8 src ∧ agreeOnRegs [] s t ∧ t.f = s.f ∧ agreeOnBytes [s.hl] s t ∧ agreeOnSpAndControl s t)

/-- R122, R125. -/
def Obligations.LoadImmediateByte : Prop :=
  ∀ (s : State) (d8 : Byte),
    (∀ dst : Reg8, Runs (rowLdImm (.reg dst) d8) s (s.pc + 2) 8 fun t =>
      t.get8 dst = d8 ∧ agreeOnRegs [dst] s t ∧ t.f = s.f ∧ agreeOnBytes [] s t ∧ agreeOnSpAndControl s t) ∧
    (Runs (rowLdImm .atHL d8) s (s.pc + 2) 12 fun t =>
      t.read8 s.hl = d8 ∧ agreeOnRegs [] s t ∧ t.f = s.f ∧ agreeOnBytes [s.hl] s t ∧ agreeOnSpAndControl s t)

/-- R126, R127, R132, R133. -/
def Obligations.LoadAThroughPair : Prop :=
  ∀ s : State,
    (Runs .ldAAtBC s (s.pc + 1) 8 fun t =>
      t.a = s.read8 s.bc ∧ agreeOnRegs [.a] s t ∧ t.f = s.f ∧ agreeOnBytes [] s t ∧ agreeOnSpAndControl s t) ∧
    (Runs .ldAAtDE s (s.pc + 1) 8 fun t =>
      t.a = s.read8 s.de ∧ agreeOnRegs [.a] s t ∧ t.f = s.f ∧ agreeOnBytes [] s t ∧ agreeOnSpAndControl s t) ∧
    (Runs .ldAAtHLInc s (s.pc + 1) 8 fun t =>
      t.a = s.read8 s.hl ∧ t.hl = s.hl + 1 ∧ agreeOnRegs [.a, .h, .l] s t ∧ t.f = s.f ∧ agreeOnBytes [] s t ∧
      agreeOnSpAndControl s t) ∧
    (Runs .ldAAtHLDec s (s.pc + 1) 8 fun t =>
      t.a = s.read8 s.hl ∧ t.hl = s.hl - 1 ∧ agreeOnRegs [.a, .h, .l] s t ∧ t.f = s.f ∧ agreeOnBytes [] s t ∧
      agreeOnSpAndControl s t)

/-- R128, R129, R130, R131. -/
def Obligations.StoreAThroughPair : Prop :=
  ∀ s : State,
    (Runs .ldAtBCA s (s.pc + 1) 8 fun t =>
      t.read8 s.bc = s.a ∧ agreeOnRegs [] s t ∧ t.f = s.f ∧ agreeOnBytes [s.bc] s t ∧ agreeOnSpAndControl s t) ∧
    (Runs .ldAtDEA s (s.pc + 1) 8 fun t =>
      t.read8 s.de = s.a ∧ agreeOnRegs [] s t ∧ t.f = s.f ∧ agreeOnBytes [s.de] s t ∧ agreeOnSpAndControl s t) ∧
    (Runs .ldAtHLIncA s (s.pc + 1) 8 fun t =>
      t.read8 s.hl = s.a ∧ t.hl = s.hl + 1 ∧ agreeOnRegs [.h, .l] s t ∧ t.f = s.f ∧ agreeOnBytes [s.hl] s t ∧
      agreeOnSpAndControl s t) ∧
    (Runs .ldAtHLDecA s (s.pc + 1) 8 fun t =>
      t.read8 s.hl = s.a ∧ t.hl = s.hl - 1 ∧ agreeOnRegs [.h, .l] s t ∧ t.f = s.f ∧ agreeOnBytes [s.hl] s t ∧
      agreeOnSpAndControl s t)

/-- R134 to R139: the high page and absolute forms; the high-page address is 0xFF00 plus the byte. -/
def Obligations.HighPageAndAbsoluteForms : Prop :=
  ∀ (s : State) (a8 : Byte) (a16 : Word),
    let high : Byte → Word := fun v => 0xFF00 + v.setWidth 16
    let stored : Word → State → Prop := fun addr t =>
      t.read8 addr = s.a ∧ agreeOnRegs [] s t ∧ t.f = s.f ∧ agreeOnBytes [addr] s t ∧ agreeOnSpAndControl s t
    let loaded : Word → State → Prop := fun addr t =>
      t.a = s.read8 addr ∧ agreeOnRegs [.a] s t ∧ t.f = s.f ∧ agreeOnBytes [] s t ∧ agreeOnSpAndControl s t
    Runs (.ldhAtA8A a8) s (s.pc + 2) 12 (stored (high a8)) ∧ Runs (.ldhAAtA8 a8) s (s.pc + 2) 12 (loaded (high a8)) ∧
    Runs .ldAtCA s (s.pc + 1) 8 (stored (high s.c)) ∧ Runs .ldAAtC s (s.pc + 1) 8 (loaded (high s.c)) ∧
    Runs (.ldAtA16A a16) s (s.pc + 3) 16 (stored a16) ∧ Runs (.ldAAtA16 a16) s (s.pc + 3) 16 (loaded a16)

/-! ## The 16-bit loads and the stack -/

/-- R150, R160, R161. -/
def Obligations.PairLoadIncrementDecrement : Prop :=
  ∀ (s : State) (p : Pair) (d16 : Word),
    let set : Word → State → Prop := fun v t =>
      t.getPair p = v ∧ (∀ q : Pair, q ≠ p → t.getPair q = s.getPair q) ∧ t.a = s.a ∧ t.f = s.f ∧
      agreeOnBytes [] s t ∧ agreeOnControl s t
    Runs (rowLdPair p d16) s (s.pc + 3) 12 (set d16) ∧
    Runs (rowIncPair p) s (s.pc + 1) 8 (set (s.getPair p + 1)) ∧
    Runs (rowDecPair p) s (s.pc + 1) 8 (set (s.getPair p - 1))

/-- R151, R152. -/
def Obligations.StoreAndLoadSP : Prop :=
  ∀ (s : State) (a16 : Word),
    (Runs (.ldAtA16SP a16) s (s.pc + 3) 20 fun t =>
      t.read8 a16 = loByte s.sp ∧ t.read8 (a16 + 1) = hiByte s.sp ∧ agreeOnBytes [a16, a16 + 1] s t ∧
      agreeOnRegs [] s t ∧ t.f = s.f ∧ agreeOnSpAndControl s t) ∧
    (Runs .ldSPHL s (s.pc + 1) 8 fun t =>
      t.sp = s.hl ∧ agreeOnBytes [] s t ∧ agreeOnRegs [] s t ∧ t.f = s.f ∧ agreeOnControl s t)

/-- R153, R167: the displacement is signed; HF and CF come from the unsigned addition of the low bytes. -/
def Obligations.SpPlusDisplacement : Prop :=
  ∀ (s : State) (e8 : Byte),
    let sum : Int := (s.sp.toNat + e8.toInt) % 65536
    let flags : State → Prop := fun t =>
      flagsAre t false false (decide (s.sp.toNat % 16 + e8.toNat % 16 > 15))
        (decide (s.sp.toNat % 256 + e8.toNat > 255)) ∧ agreeOnLowF s t
    (Runs (.ldHLSPE8 e8) s (s.pc + 2) 12 fun t =>
      (t.hl.toNat : Int) = sum ∧ flags t ∧ agreeOnRegs [.h, .l] s t ∧ agreeOnBytes [] s t ∧
      agreeOnSpAndControl s t) ∧
    (Runs (.addSPE8 e8) s (s.pc + 2) 16 fun t =>
      (t.sp.toNat : Int) = sum ∧ flags t ∧ agreeOnRegs [] s t ∧ agreeOnBytes [] s t ∧ agreeOnControl s t)

/-- R154, R155, R156. -/
def Obligations.PushAndPopPair : Prop :=
  ∀ (s : State) (p : StackPair),
    (Runs (rowPush p) s (s.pc + 1) 16 fun t =>
      t.sp = s.sp - 2 ∧ t.read8 (s.sp - 2) = loByte (s.getStackPair p) ∧
      t.read8 (s.sp - 1) = hiByte (s.getStackPair p) ∧ agreeOnBytes [s.sp - 2, s.sp - 1] s t ∧ agreeOnRegs [] s t ∧
      t.f = s.f ∧ agreeOnControl s t) ∧
    (Runs (rowPop p) s (s.pc + 1) 12 fun t =>
      t.sp = s.sp + 2 ∧ loByte (t.getStackPair p) = s.read8 s.sp ∧ hiByte (t.getStackPair p) = s.read8 (s.sp + 1) ∧
      (∀ q : StackPair, q ≠ p → t.getStackPair q = s.getStackPair q) ∧ agreeOnBytes [] s t ∧ agreeOnControl s t)

/-! ## Increment, decrement and 16-bit add -/

/-- R162 to R165. -/
def Obligations.IncAndDecByte : Prop :=
  ∀ (s : State) (o : Operand8),
    let pre := s.readOperand o
    (Runs (rowInc o) s (s.pc + 1) (operandCost o 4 12) fun t =>
      t.readOperand o = pre + 1 ∧ flagsAre t (pre == 0xFF) false (pre.toNat % 16 == 15) (s.f.getLsbD 4) ∧
      agreeOnLowF s t ∧ agreeOnRegs (operandRegs o) s t ∧ agreeOnBytes (operandBytes s o) s t ∧
      agreeOnSpAndControl s t) ∧
    (Runs (rowDec o) s (s.pc + 1) (operandCost o 4 12) fun t =>
      t.readOperand o = pre - 1 ∧ flagsAre t (pre == 0x01) true (pre.toNat % 16 == 0) (s.f.getLsbD 4) ∧
      agreeOnLowF s t ∧ agreeOnRegs (operandRegs o) s t ∧ agreeOnBytes (operandBytes s o) s t ∧
      agreeOnSpAndControl s t)

/-- R166. -/
def Obligations.AddPairToHL : Prop :=
  ∀ (s : State) (p : Pair),
    let a := s.hl.toNat
    let b := (s.getPair p).toNat
    Runs (rowAddHL p) s (s.pc + 1) 8 fun t =>
      t.hl.toNat = (a + b) % 65536 ∧
      flagsAre t (s.f.getLsbD 7) false (decide (a % 4096 + b % 4096 > 4095)) (decide (a + b > 65535)) ∧
      agreeOnLowF s t ∧ agreeOnRegs [.h, .l] s t ∧ agreeOnBytes [] s t ∧ agreeOnSpAndControl s t

/-! ## 8-bit arithmetic and logic -/

/-- R170, R171, R172: every form; the carry that ADC adds is the one the previous instruction left (R325). -/
def Obligations.AddAndAddWithCarry : Prop :=
  ∀ s : State,
    let post : Nat → Byte → State → Prop := fun cin x t =>
      t.a.toNat = (s.a.toNat + x.toNat + cin) % 256 ∧
      flagsAre t (t.a == 0) false (decide (s.a.toNat % 16 + x.toNat % 16 + cin > 15))
        (decide (s.a.toNat + x.toNat + cin > 255)) ∧
      t.f.extractLsb' 0 4 = 0 ∧ agreeOnRegs [.a] s t ∧ agreeOnBytes [] s t ∧ agreeOnSpAndControl s t
    AluRuns .add s (post 0) ∧ AluRuns .adc s (post (s.f.getLsbD 4).toNat)

/-- R170, R173, R174, R178: every form; CP leaves A and has the flags of SUB. -/
def Obligations.SubtractBorrowCompare : Prop :=
  ∀ s : State,
    let res : Nat → Byte → Int := fun cin x => ((s.a.toNat : Int) - x.toNat - cin) % 256
    let post : Nat → Byte → State → Prop := fun cin x t =>
      flagsAre t (res cin x == 0) true (decide (s.a.toNat % 16 < x.toNat % 16 + cin)) (decide (s.a.toNat < x.toNat + cin)) ∧
      t.f.extractLsb' 0 4 = 0 ∧ agreeOnRegs [.a] s t ∧ agreeOnBytes [] s t ∧ agreeOnSpAndControl s t
    let cin := (s.f.getLsbD 4).toNat
    AluRuns .sub s (fun x t => (t.a.toNat : Int) = res 0 x ∧ post 0 x t) ∧
    AluRuns .sbc s (fun x t => (t.a.toNat : Int) = res cin x ∧ post cin x t) ∧
    AluRuns .cp s (fun x t => t.a = s.a ∧ post 0 x t)

/-- R170, R175, R176, R177: every form. -/
def Obligations.AndXorOr : Prop :=
  ∀ s : State,
    let post : Bool → Byte → State → Prop := fun h res t =>
      t.a = res ∧ flagsAre t (res == 0) false h false ∧ t.f.extractLsb' 0 4 = 0 ∧ agreeOnRegs [.a] s t ∧
      agreeOnBytes [] s t ∧ agreeOnSpAndControl s t
    AluRuns .and s (fun x => post true (s.a &&& x)) ∧ AluRuns .xor s (fun x => post false (s.a ^^^ x)) ∧
    AluRuns .or s (fun x => post false (s.a ||| x))

/-- R179. -/
def Obligations.DecimalAdjust : Prop :=
  ∀ s : State,
    let n := s.f.getLsbD 6
    let h := s.f.getLsbD 5
    let c := s.f.getLsbD 4
    let low := h || (!n && decide (s.a.toNat % 16 > 9))
    let high := c || (!n && decide (s.a.toNat > 0x99))
    let adj : Int := (if low then 6 else 0) + (if high then 0x60 else 0)
    Runs .daa s (s.pc + 1) 4 fun t =>
      (t.a.toNat : Int) = (s.a.toNat + (if n then -adj else adj)) % 256 ∧ flagsAre t (t.a == 0) n false high ∧
      agreeOnLowF s t ∧ agreeOnRegs [.a] s t ∧ agreeOnBytes [] s t ∧ agreeOnSpAndControl s t

/-- R171, R179: what DAA is for. Adding two packed decimal numbers and then adjusting gives the packed decimal sum. -/
def Obligations.DecimalAdditionIsExact : Prop :=
  ∀ (s : State) (x y : Nat), x < 100 → y < 100 → s.a = bcd x →
    ∃ t u, exec (.addAD8 (bcd y)) s = .next t ∧ exec .daa t = .next u ∧
      u.a = bcd ((x + y) % 100) ∧ u.f.getLsbD 4 = decide (x + y ≥ 100) ∧ u.f.getLsbD 7 = decide ((x + y) % 100 = 0)

/-- R180, R181, R182. -/
def Obligations.ComplementAndCarryFlags : Prop :=
  ∀ s : State,
    let kept : State → Prop := fun t => agreeOnLowF s t ∧ agreeOnBytes [] s t ∧ agreeOnSpAndControl s t
    let z := s.f.getLsbD 7
    let c := s.f.getLsbD 4
    (Runs .cpl s (s.pc + 1) 4 fun t =>
      t.a.toNat = 255 - s.a.toNat ∧ flagsAre t z true true c ∧ agreeOnRegs [.a] s t ∧ kept t) ∧
    (Runs .scf s (s.pc + 1) 4 fun t => flagsAre t z false false true ∧ agreeOnRegs [] s t ∧ kept t) ∧
    (Runs .ccf s (s.pc + 1) 4 fun t => flagsAre t z false false (!c) ∧ agreeOnRegs [] s t ∧ kept t)

/-! ## Rotates, shifts and bit operations -/

/-- R190 to R193. -/
def Obligations.RotatesOfA : Prop :=
  ∀ s : State,
    let cf := (s.f.getLsbD 4).toNat
    let post : Nat → Bool → State → Prop := fun res carry t =>
      t.a.toNat = res ∧ flagsAre t false false false carry ∧ agreeOnLowF s t ∧ agreeOnRegs [.a] s t ∧
      agreeOnBytes [] s t ∧ agreeOnSpAndControl s t
    let b7 := s.a.getLsbD 7
    let b0 := s.a.getLsbD 0
    Runs .rlca s (s.pc + 1) 4 (post (2 * s.a.toNat % 256 + b7.toNat) b7) ∧
    Runs .rrca s (s.pc + 1) 4 (post (s.a.toNat / 2 + 128 * b0.toNat) b0) ∧
    Runs .rla s (s.pc + 1) 4 (post (2 * s.a.toNat % 256 + cf) b7) ∧
    Runs .rra s (s.pc + 1) 4 (post (s.a.toNat / 2 + 128 * cf) b0)

/-- R194 to R198: the rotates of the extended table always clear Z. -/
def Obligations.ExtendedRotates : Prop :=
  ∀ (s : State) (o : Operand8),
    let v := s.readOperand o
    let cf := (s.f.getLsbD 4).toNat
    let post : Nat → Bool → State → Prop := fun res carry t =>
      (t.readOperand o).toNat = res ∧ flagsAre t false false false carry ∧ agreeOnLowF s t ∧
      agreeOnRegs (operandRegs o) s t ∧ agreeOnBytes (operandBytes s o) s t ∧ agreeOnSpAndControl s t
    let b7 := v.getLsbD 7
    let b0 := v.getLsbD 0
    let n := operandCost o 8 16
    Runs (rowRot .rlc o) s (s.pc + 2) n (post (2 * v.toNat % 256 + b7.toNat) b7) ∧
    Runs (rowRot .rrc o) s (s.pc + 2) n (post (v.toNat / 2 + 128 * b0.toNat) b0) ∧
    Runs (rowRot .rl o) s (s.pc + 2) n (post (2 * v.toNat % 256 + cf) b7) ∧
    Runs (rowRot .rr o) s (s.pc + 2) n (post (v.toNat / 2 + 128 * cf) b0)

/-- R194, R199 to R202: the shifts and SWAP take Z from the result. -/
def Obligations.ShiftsAndSwap : Prop :=
  ∀ (s : State) (o : Operand8),
    let v := s.readOperand o
    let post : Nat → Bool → State → Prop := fun res carry t =>
      (t.readOperand o).toNat = res ∧ flagsAre t (res == 0) false false carry ∧ agreeOnLowF s t ∧
      agreeOnRegs (operandRegs o) s t ∧ agreeOnBytes (operandBytes s o) s t ∧ agreeOnSpAndControl s t
    let n := operandCost o 8 16
    Runs (rowRot .sla o) s (s.pc + 2) n (post (2 * v.toNat % 256) (v.getLsbD 7)) ∧
    Runs (rowRot .sra o) s (s.pc + 2) n (post (v.toNat / 2 + 128 * (v.toNat / 128)) (v.getLsbD 0)) ∧
    Runs (rowRot .swap o) s (s.pc + 2) n (post (16 * (v.toNat % 16) + v.toNat / 16) false) ∧
    Runs (rowRot .srl o) s (s.pc + 2) n (post (v.toNat / 2) (v.getLsbD 0))

/-- R203. -/
def Obligations.BitTestReadsOneBit : Prop :=
  ∀ (s : State) (n : Fin 8) (o : Operand8), Runs (rowBit n o) s (s.pc + 2) (operandCost o 8 16) fun t =>
    flagsAre t (!(s.readOperand o).getLsbD n.val) false true (s.f.getLsbD 4) ∧ agreeOnLowF s t ∧ agreeOnRegs [] s t ∧
    agreeOnBytes [] s t ∧ agreeOnSpAndControl s t

/-- R204, R205. -/
def Obligations.ResetAndSetOneBit : Prop :=
  ∀ (s : State) (n : Fin 8) (o : Operand8),
    let post : Bool → State → Prop := fun bit t =>
      (∀ k, k < 8 → (t.readOperand o).getLsbD k = if k = n.val then bit else (s.readOperand o).getLsbD k) ∧ t.f = s.f ∧
      agreeOnRegs (operandRegs o) s t ∧ agreeOnBytes (operandBytes s o) s t ∧ agreeOnSpAndControl s t
    Runs (rowRes n o) s (s.pc + 2) (operandCost o 8 16) (post false) ∧
    Runs (rowSet n o) s (s.pc + 2) (operandCost o 8 16) (post true)

/-- R163, R190: the source's inverse pairs. A decrement after an increment, and a rotate right after a rotate left,
restore the value, for every register and `(HL)`; and what flags they leave. -/
def Obligations.InversePairsRestoreValue : Prop :=
  ∀ (s : State) (o : Operand8),
    let v := s.readOperand o
    (∃ t u, exec (rowInc o) s = .next t ∧ exec (rowDec o) t = .next u ∧
      u.readOperand o = v ∧ agreeOnRegs [] s u ∧ agreeOnBytes [] s u ∧
      flagsAre u (v == 0) true (v.toNat % 16 == 15) (s.f.getLsbD 4)) ∧
    (∃ t u, exec .rlca s = .next t ∧ exec .rrca t = .next u ∧ u.a = s.a ∧ u.f.getLsbD 4 = s.a.getLsbD 7) ∧
    (∃ t u, exec (rowRot .rlc o) s = .next t ∧ exec (rowRot .rrc o) t = .next u ∧
      u.readOperand o = v ∧ agreeOnRegs [] s u ∧ agreeOnBytes [] s u ∧ u.f.getLsbD 4 = v.getLsbD 7)

/-! ## Jumps, calls and returns -/

/-- R210 to R215. -/
def Obligations.JumpsTakenAndNotTaken : Prop :=
  ∀ (s : State) (cc : Cond) (e8 : Byte) (a16 : Word),
    let kept : State → Prop := fun t =>
      agreeOnRegs [] s t ∧ t.f = s.f ∧ agreeOnBytes [] s t ∧ agreeOnSpAndControl s t
    let relative : Word := BitVec.ofInt 16 (s.pc.toNat + 2 + e8.toInt)
    let taken := condOfF s.f cc
    Runs (.jrE8 e8) s relative 12 kept ∧
    Runs (rowJrCond cc e8) s (if taken then relative else s.pc + 2) (if taken then 12 else 8) kept ∧
    Runs (.jpA16 a16) s a16 16 kept ∧
    Runs (rowJpCond cc a16) s (if taken then a16 else s.pc + 3) (if taken then 16 else 12) kept ∧
    Runs .jpAtHL s s.hl 4 kept

/-- R210, R216, R217, R221. -/
def Obligations.CallsPushReturnAddress : Prop :=
  ∀ (s : State) (cc : Cond) (a16 : Word) (y : Fin 8),
    let pushed : Word → State → Prop := fun v t =>
      t.sp = s.sp - 2 ∧ t.read8 (s.sp - 2) = loByte v ∧ t.read8 (s.sp - 1) = hiByte v ∧
      agreeOnBytes [s.sp - 2, s.sp - 1] s t ∧ agreeOnRegs [] s t ∧ t.f = s.f ∧ agreeOnControl s t
    let kept : State → Prop := fun t =>
      agreeOnRegs [] s t ∧ t.f = s.f ∧ agreeOnBytes [] s t ∧ agreeOnSpAndControl s t
    Runs (.callA16 a16) s a16 24 (pushed (s.pc + 3)) ∧
    (condOfF s.f cc = true → Runs (rowCallCond cc a16) s a16 24 (pushed (s.pc + 3))) ∧
    (condOfF s.f cc = false → Runs (rowCallCond cc a16) s (s.pc + 3) 12 kept) ∧
    Runs (rowRst y) s (BitVec.ofNat 16 (8 * y.val)) 16 (pushed (s.pc + 1))

/-- R210, R218, R219, R220. -/
def Obligations.ReturnsPopPc : Prop :=
  ∀ (s : State) (cc : Cond),
    let word := joinBytes (s.read8 (s.sp + 1)) (s.read8 s.sp)
    let popped : State → Prop := fun t =>
      t.sp = s.sp + 2 ∧ agreeOnRegs [] s t ∧ t.f = s.f ∧ agreeOnBytes [] s t ∧ t.runState = s.runState ∧
      t.fault = s.fault
    let kept : State → Prop := fun t =>
      agreeOnRegs [] s t ∧ t.f = s.f ∧ agreeOnBytes [] s t ∧ agreeOnSpAndControl s t
    (Runs .ret s word 16 fun t => popped t ∧ t.ime = s.ime) ∧
    (Runs .reti s word 16 fun t => popped t ∧ t.ime = true) ∧
    (condOfF s.f cc = true → Runs (rowRetCond cc) s word 20 fun t => popped t ∧ t.ime = s.ime) ∧
    (condOfF s.f cc = false → Runs (rowRetCond cc) s (s.pc + 1) 8 kept)

/-! ## NOP and CPU control -/

/-- R120, R230, R231, R232, R233. -/
def Obligations.NopHaltStopDiEi : Prop :=
  ∀ (s : State) (pad : Byte),
    let kept : State → Prop := fun t =>
      agreeOnRegs [] s t ∧ t.f = s.f ∧ agreeOnBytes [] s t ∧ t.sp = s.sp ∧ t.fault = s.fault
    (Runs .nop s (s.pc + 1) 4 fun t => kept t ∧ t.runState = s.runState ∧ t.ime = s.ime) ∧
    (Runs .halt s (s.pc + 1) 4 fun t => kept t ∧ t.runState = .halted ∧ t.ime = s.ime) ∧
    (Runs (.stop pad) s (s.pc + 2) 4 fun t => kept t ∧ t.runState = .stopped ∧ t.ime = s.ime) ∧
    (Runs .di s (s.pc + 1) 4 fun t => kept t ∧ t.runState = s.runState ∧ t.ime = false) ∧
    (Runs .ei s (s.pc + 1) 4 fun t => kept t ∧ t.runState = s.runState ∧ t.ime = true)
end

