-- ==== Sys2Proof/Laws/Memory.lean ====
section
/-! SUPPORT. The laws of cells and of the address space: reading after writing, and that every write keeps the canonical
form. They hold of every list of cells; only the last group needs the canonical form. -/

namespace Sys2Proof.Machine

section Cells

variable {w : Nat} (dflt v : BitVec w) (l : List (Nat × BitVec w)) (k j : Nat)

theorem cellGet_nil : cellGet dflt [] k = dflt := rfl

theorem cellGet_erase_self : cellGet dflt (cellErase l k) k = dflt := by
  induction l with
  | nil => rfl
  | cons cell rest ih =>
    by_cases h : cell.1 = k
    · simpa [cellErase, h] using ih
    · simpa [cellErase, h, cellGet] using ih

theorem cellGet_erase_of_ne (h : j ≠ k) : cellGet dflt (cellErase l k) j = cellGet dflt l j := by
  induction l with
  | nil => rfl
  | cons cell rest ih =>
    by_cases hk : cell.1 = k
    · have hj : cell.1 ≠ j := fun e => h (e.symm.trans hk)
      simpa [cellErase, hk, cellGet, h.symm] using ih
    · by_cases hj : cell.1 = j
      · simp [cellErase, cellGet, hj, h]
      · simpa [cellErase, hk, cellGet, hj] using ih

/-- Inserting at a key that the list does not hold: the key reads as the value, every other key as before. -/
theorem cellGet_insert (hk : ∀ cell ∈ l, cell.1 ≠ k) :
    cellGet dflt (cellInsert k v l) j = if j = k then v else cellGet dflt l j := by
  induction l with
  | nil =>
    by_cases h : j = k
    · simp [cellInsert, cellGet, h]
    · simp [cellInsert, cellGet, h, Ne.symm h]
  | cons cell rest ih =>
    have hc : cell.1 ≠ k := hk cell (by simp)
    have hr : ∀ c ∈ rest, c.1 ≠ k := fun c hm => hk c (by simp [hm])
    by_cases hlt : k < cell.1
    · by_cases h : j = k
      · simp [cellInsert, hlt, cellGet, h]
      · simp [cellInsert, hlt, cellGet, h, Ne.symm h]
    · by_cases hj : cell.1 = j
      · have : j ≠ k := fun e => hc (hj.trans e)
        rw [cellInsert, if_neg hlt, cellGet, if_pos hj, if_neg this, cellGet, if_pos hj]
      · simp [cellInsert, hlt, cellGet, hj, ih hr]

theorem key_ne_of_mem_erase : ∀ cell ∈ cellErase l k, cell.1 ≠ k := by
  intro cell hm
  simpa [cellErase] using (List.mem_filter.mp hm).2

/-- The one law of a cell write: the key reads as the value written, every other key as before. -/
theorem cellGet_set : cellGet dflt (cellSet dflt l k v) j = if j = k then v else cellGet dflt l j := by
  unfold cellSet
  by_cases hv : v = dflt
  · by_cases h : j = k
    · subst h; simpa [hv] using cellGet_erase_self dflt l j
    · simp [hv, h, cellGet_erase_of_ne dflt l k j h]
  · rw [if_neg hv, cellGet_insert dflt v _ k j (key_ne_of_mem_erase l k)]
    by_cases h : j = k
    · simp [h]
    · simp [h, cellGet_erase_of_ne dflt l k j h]

variable {dflt v l k} {bound lo lo' : Nat}

theorem cellsWf_mono (h : lo' ≤ lo) (hw : cellsWf dflt bound lo l = true) : cellsWf dflt bound lo' l = true := by
  cases l with
  | nil => rfl
  | cons cell rest =>
    simp only [cellsWf, Bool.and_eq_true, decide_eq_true_eq] at hw ⊢
    exact ⟨⟨⟨h.trans hw.1.1.1, hw.1.1.2⟩, hw.1.2⟩, hw.2⟩

theorem cellsWf_erase (hw : cellsWf dflt bound lo l = true) : cellsWf dflt bound lo (cellErase l k) = true := by
  induction l generalizing lo with
  | nil => rfl
  | cons cell rest ih =>
    simp only [cellsWf, Bool.and_eq_true, decide_eq_true_eq] at hw
    have hr := ih hw.2
    by_cases hk : cell.1 = k
    · have : cellErase (cell :: rest) k = cellErase rest k := by simp [cellErase, hk]
      rw [this]
      exact cellsWf_mono (hw.1.1.1.trans (Nat.le_succ _)) hr
    · have : cellErase (cell :: rest) k = cell :: cellErase rest k := by simp [cellErase, hk]
      rw [this]
      simp only [cellsWf, Bool.and_eq_true, decide_eq_true_eq]
      exact ⟨hw.1, hr⟩

theorem cellsWf_insert (hlo : lo ≤ k) (hb : k < bound) (hv : v ≠ dflt) (hk : ∀ cell ∈ l, cell.1 ≠ k)
    (hw : cellsWf dflt bound lo l = true) : cellsWf dflt bound lo (cellInsert k v l) = true := by
  induction l generalizing lo with
  | nil => simp [cellInsert, cellsWf, hlo, hb, hv]
  | cons cell rest ih =>
    have hc : cell.1 ≠ k := hk cell (by simp)
    simp only [cellsWf, Bool.and_eq_true, decide_eq_true_eq] at hw
    by_cases hlt : k < cell.1
    · simp only [cellInsert, hlt, if_true, cellsWf, Bool.and_eq_true, decide_eq_true_eq]
      exact ⟨⟨⟨hlo, hb⟩, hv⟩, ⟨⟨⟨hlt, hw.1.1.2⟩, hw.1.2⟩, hw.2⟩⟩
    · simp only [cellInsert, hlt, if_false, cellsWf, Bool.and_eq_true, decide_eq_true_eq]
      exact ⟨hw.1, ih (by omega) (fun c hm => hk c (by simp [hm])) hw.2⟩

/-- Every cell write keeps the canonical form. -/
theorem cellsWf_set (hlo : lo ≤ k) (hb : k < bound) (hw : cellsWf dflt bound lo l = true) :
    cellsWf dflt bound lo (cellSet dflt l k v) = true := by
  unfold cellSet
  split
  · exact cellsWf_erase hw
  · next hv => exact cellsWf_insert hlo hb hv (key_ne_of_mem_erase l k) (cellsWf_erase hw)

end Cells

/-- Read after write, at any two addresses (R62, R63). -/
theorem Memory.read_write (m : List Host.Cell) (addr other : Word) (v : Byte) :
    Memory.read (Memory.write m addr v) other = if other = addr then v else Memory.read m other := by
  simp only [Memory.read, Memory.write, cellGet_set, BitVec.toNat_inj]

/-- `MemWrite` keeps the canonical form. -/
theorem Memory.wf_write {m : List Host.Cell} (addr : Word) (v : Byte) (h : Memory.wf m = true) :
    Memory.wf (Memory.write m addr v) = true :=
  cellsWf_set (Nat.zero_le _) addr.isLt h

/-- The memory of `State.reset` lists nothing and is in canonical form. -/
theorem Memory.wf_nil : Memory.wf [] = true := rfl

theorem Memory.wf_reset : Memory.wf State.reset.mem = true := rfl

/-! ## Every operation of Machine/Ops.lean that stores keeps the canonical form -/

theorem State.wf_write8 {s : State} (addr : Word) (v : Byte) (h : Memory.wf s.mem = true) :
    Memory.wf (s.write8 addr v).mem = true := Memory.wf_write addr v h

theorem State.wf_write16 {s : State} (addr v : Word) (h : Memory.wf s.mem = true) :
    Memory.wf (s.write16 addr v).mem = true := State.wf_write8 _ _ (State.wf_write8 _ _ h)

theorem State.wf_push16 {s : State} (v : Word) (h : Memory.wf s.mem = true) :
    Memory.wf (s.push16 v).mem = true := Memory.wf_write _ _ (Memory.wf_write _ _ h)

theorem State.wf_setFlag {s : State} (addr : Word) (mask : Byte) (h : Memory.wf s.mem = true) :
    Memory.wf (s.setFlag addr mask).mem = true := State.wf_write8 _ _ h

theorem State.wf_clearFlag {s : State} (addr : Word) (mask : Byte) (h : Memory.wf s.mem = true) :
    Memory.wf (s.clearFlag addr mask).mem = true := State.wf_write8 _ _ h

theorem State.wf_takeInterrupt {s : State} (i : Nat) (h : Memory.wf s.mem = true) :
    Memory.wf (s.takeInterrupt i).mem = true := State.wf_clearFlag _ _ (State.wf_push16 s.pc h)

end Sys2Proof.Machine
end

