-- ==== Sys2Proof/Laws/State.lean ====
section
/-! SUPPORT. One lemma per field per update of State, each true by rfl: what an update writes, and that it leaves every
other field. -/

namespace Sys2Proof.Machine

variable (s : State)

/-! ## write8 -/

@[simp] theorem State.a_write8 (addr : Word) (v : Byte) : (s.write8 addr v).a = s.a := rfl
@[simp] theorem State.f_write8 (addr : Word) (v : Byte) : (s.write8 addr v).f = s.f := rfl
@[simp] theorem State.b_write8 (addr : Word) (v : Byte) : (s.write8 addr v).b = s.b := rfl
@[simp] theorem State.c_write8 (addr : Word) (v : Byte) : (s.write8 addr v).c = s.c := rfl
@[simp] theorem State.d_write8 (addr : Word) (v : Byte) : (s.write8 addr v).d = s.d := rfl
@[simp] theorem State.e_write8 (addr : Word) (v : Byte) : (s.write8 addr v).e = s.e := rfl
@[simp] theorem State.h_write8 (addr : Word) (v : Byte) : (s.write8 addr v).h = s.h := rfl
@[simp] theorem State.l_write8 (addr : Word) (v : Byte) : (s.write8 addr v).l = s.l := rfl
@[simp] theorem State.sp_write8 (addr : Word) (v : Byte) : (s.write8 addr v).sp = s.sp := rfl
@[simp] theorem State.pc_write8 (addr : Word) (v : Byte) : (s.write8 addr v).pc = s.pc := rfl
@[simp] theorem State.ime_write8 (addr : Word) (v : Byte) : (s.write8 addr v).ime = s.ime := rfl
@[simp] theorem State.runState_write8 (addr : Word) (v : Byte) : (s.write8 addr v).runState = s.runState := rfl
@[simp] theorem State.fault_write8 (addr : Word) (v : Byte) : (s.write8 addr v).fault = s.fault := rfl
@[simp] theorem State.cycles_write8 (addr : Word) (v : Byte) : (s.write8 addr v).cycles = s.cycles := rfl
@[simp] theorem State.tStep_write8 (addr : Word) (v : Byte) : (s.write8 addr v).tStep = s.tStep := rfl
@[simp] theorem State.mStep_write8 (addr : Word) (v : Byte) : (s.write8 addr v).mStep = s.mStep := rfl
@[simp] theorem State.tTotal_write8 (addr : Word) (v : Byte) : (s.write8 addr v).tTotal = s.tTotal := rfl
@[simp] theorem State.mTotal_write8 (addr : Word) (v : Byte) : (s.write8 addr v).mTotal = s.mTotal := rfl
@[simp] theorem State.internalClock_write8 (addr : Word) (v : Byte) : (s.write8 addr v).internalClock = s.internalClock := rfl
@[simp] theorem State.prevHorizontalClock_write8 (addr : Word) (v : Byte) : (s.write8 addr v).prevHorizontalClock = s.prevHorizontalClock := rfl
@[simp] theorem State.prevVerticalClock_write8 (addr : Word) (v : Byte) : (s.write8 addr v).prevVerticalClock = s.prevVerticalClock := rfl
@[simp] theorem State.displayOn_write8 (addr : Word) (v : Byte) : (s.write8 addr v).displayOn = s.displayOn := rfl
@[simp] theorem State.fb_write8 (addr : Word) (v : Byte) : (s.write8 addr v).fb = s.fb := rfl
@[simp] theorem State.bgBases_write8 (addr : Word) (v : Byte) : (s.write8 addr v).bgBases = s.bgBases := rfl
@[simp] theorem State.mem_write8 (addr : Word) (v : Byte) : (s.write8 addr v).mem = Memory.write s.mem addr v := rfl
@[simp] theorem State.running_write8 (addr : Word) (v : Byte) : (s.write8 addr v).running = s.running := rfl
@[simp] theorem State.hostInput_write8 (addr : Word) (v : Byte) : (s.write8 addr v).hostInput = s.hostInput := rfl
@[simp] theorem State.cyclesOut_write8 (addr : Word) (v : Byte) : (s.write8 addr v).cyclesOut = s.cyclesOut := rfl
@[simp] theorem State.frameEvent_write8 (addr : Word) (v : Byte) : (s.write8 addr v).frameEvent = s.frameEvent := rfl

/-! ## setFlag -/

@[simp] theorem State.a_setFlag (addr : Word) (mask : Byte) : (s.setFlag addr mask).a = s.a := rfl
@[simp] theorem State.f_setFlag (addr : Word) (mask : Byte) : (s.setFlag addr mask).f = s.f := rfl
@[simp] theorem State.b_setFlag (addr : Word) (mask : Byte) : (s.setFlag addr mask).b = s.b := rfl
@[simp] theorem State.c_setFlag (addr : Word) (mask : Byte) : (s.setFlag addr mask).c = s.c := rfl
@[simp] theorem State.d_setFlag (addr : Word) (mask : Byte) : (s.setFlag addr mask).d = s.d := rfl
@[simp] theorem State.e_setFlag (addr : Word) (mask : Byte) : (s.setFlag addr mask).e = s.e := rfl
@[simp] theorem State.h_setFlag (addr : Word) (mask : Byte) : (s.setFlag addr mask).h = s.h := rfl
@[simp] theorem State.l_setFlag (addr : Word) (mask : Byte) : (s.setFlag addr mask).l = s.l := rfl
@[simp] theorem State.sp_setFlag (addr : Word) (mask : Byte) : (s.setFlag addr mask).sp = s.sp := rfl
@[simp] theorem State.pc_setFlag (addr : Word) (mask : Byte) : (s.setFlag addr mask).pc = s.pc := rfl
@[simp] theorem State.ime_setFlag (addr : Word) (mask : Byte) : (s.setFlag addr mask).ime = s.ime := rfl
@[simp] theorem State.runState_setFlag (addr : Word) (mask : Byte) : (s.setFlag addr mask).runState = s.runState := rfl
@[simp] theorem State.fault_setFlag (addr : Word) (mask : Byte) : (s.setFlag addr mask).fault = s.fault := rfl
@[simp] theorem State.cycles_setFlag (addr : Word) (mask : Byte) : (s.setFlag addr mask).cycles = s.cycles := rfl
@[simp] theorem State.tStep_setFlag (addr : Word) (mask : Byte) : (s.setFlag addr mask).tStep = s.tStep := rfl
@[simp] theorem State.mStep_setFlag (addr : Word) (mask : Byte) : (s.setFlag addr mask).mStep = s.mStep := rfl
@[simp] theorem State.tTotal_setFlag (addr : Word) (mask : Byte) : (s.setFlag addr mask).tTotal = s.tTotal := rfl
@[simp] theorem State.mTotal_setFlag (addr : Word) (mask : Byte) : (s.setFlag addr mask).mTotal = s.mTotal := rfl
@[simp] theorem State.internalClock_setFlag (addr : Word) (mask : Byte) : (s.setFlag addr mask).internalClock = s.internalClock := rfl
@[simp] theorem State.prevHorizontalClock_setFlag (addr : Word) (mask : Byte) : (s.setFlag addr mask).prevHorizontalClock = s.prevHorizontalClock := rfl
@[simp] theorem State.prevVerticalClock_setFlag (addr : Word) (mask : Byte) : (s.setFlag addr mask).prevVerticalClock = s.prevVerticalClock := rfl
@[simp] theorem State.displayOn_setFlag (addr : Word) (mask : Byte) : (s.setFlag addr mask).displayOn = s.displayOn := rfl
@[simp] theorem State.fb_setFlag (addr : Word) (mask : Byte) : (s.setFlag addr mask).fb = s.fb := rfl
@[simp] theorem State.bgBases_setFlag (addr : Word) (mask : Byte) : (s.setFlag addr mask).bgBases = s.bgBases := rfl
@[simp] theorem State.running_setFlag (addr : Word) (mask : Byte) : (s.setFlag addr mask).running = s.running := rfl
@[simp] theorem State.hostInput_setFlag (addr : Word) (mask : Byte) : (s.setFlag addr mask).hostInput = s.hostInput := rfl
@[simp] theorem State.cyclesOut_setFlag (addr : Word) (mask : Byte) : (s.setFlag addr mask).cyclesOut = s.cyclesOut := rfl
@[simp] theorem State.frameEvent_setFlag (addr : Word) (mask : Byte) : (s.setFlag addr mask).frameEvent = s.frameEvent := rfl

/-! ## clearFlag -/

@[simp] theorem State.a_clearFlag (addr : Word) (mask : Byte) : (s.clearFlag addr mask).a = s.a := rfl
@[simp] theorem State.f_clearFlag (addr : Word) (mask : Byte) : (s.clearFlag addr mask).f = s.f := rfl
@[simp] theorem State.b_clearFlag (addr : Word) (mask : Byte) : (s.clearFlag addr mask).b = s.b := rfl
@[simp] theorem State.c_clearFlag (addr : Word) (mask : Byte) : (s.clearFlag addr mask).c = s.c := rfl
@[simp] theorem State.d_clearFlag (addr : Word) (mask : Byte) : (s.clearFlag addr mask).d = s.d := rfl
@[simp] theorem State.e_clearFlag (addr : Word) (mask : Byte) : (s.clearFlag addr mask).e = s.e := rfl
@[simp] theorem State.h_clearFlag (addr : Word) (mask : Byte) : (s.clearFlag addr mask).h = s.h := rfl
@[simp] theorem State.l_clearFlag (addr : Word) (mask : Byte) : (s.clearFlag addr mask).l = s.l := rfl
@[simp] theorem State.sp_clearFlag (addr : Word) (mask : Byte) : (s.clearFlag addr mask).sp = s.sp := rfl
@[simp] theorem State.pc_clearFlag (addr : Word) (mask : Byte) : (s.clearFlag addr mask).pc = s.pc := rfl
@[simp] theorem State.ime_clearFlag (addr : Word) (mask : Byte) : (s.clearFlag addr mask).ime = s.ime := rfl
@[simp] theorem State.runState_clearFlag (addr : Word) (mask : Byte) : (s.clearFlag addr mask).runState = s.runState := rfl
@[simp] theorem State.fault_clearFlag (addr : Word) (mask : Byte) : (s.clearFlag addr mask).fault = s.fault := rfl
@[simp] theorem State.cycles_clearFlag (addr : Word) (mask : Byte) : (s.clearFlag addr mask).cycles = s.cycles := rfl
@[simp] theorem State.tStep_clearFlag (addr : Word) (mask : Byte) : (s.clearFlag addr mask).tStep = s.tStep := rfl
@[simp] theorem State.mStep_clearFlag (addr : Word) (mask : Byte) : (s.clearFlag addr mask).mStep = s.mStep := rfl
@[simp] theorem State.tTotal_clearFlag (addr : Word) (mask : Byte) : (s.clearFlag addr mask).tTotal = s.tTotal := rfl
@[simp] theorem State.mTotal_clearFlag (addr : Word) (mask : Byte) : (s.clearFlag addr mask).mTotal = s.mTotal := rfl
@[simp] theorem State.internalClock_clearFlag (addr : Word) (mask : Byte) : (s.clearFlag addr mask).internalClock = s.internalClock := rfl
@[simp] theorem State.prevHorizontalClock_clearFlag (addr : Word) (mask : Byte) : (s.clearFlag addr mask).prevHorizontalClock = s.prevHorizontalClock := rfl
@[simp] theorem State.prevVerticalClock_clearFlag (addr : Word) (mask : Byte) : (s.clearFlag addr mask).prevVerticalClock = s.prevVerticalClock := rfl
@[simp] theorem State.displayOn_clearFlag (addr : Word) (mask : Byte) : (s.clearFlag addr mask).displayOn = s.displayOn := rfl
@[simp] theorem State.fb_clearFlag (addr : Word) (mask : Byte) : (s.clearFlag addr mask).fb = s.fb := rfl
@[simp] theorem State.bgBases_clearFlag (addr : Word) (mask : Byte) : (s.clearFlag addr mask).bgBases = s.bgBases := rfl
@[simp] theorem State.running_clearFlag (addr : Word) (mask : Byte) : (s.clearFlag addr mask).running = s.running := rfl
@[simp] theorem State.hostInput_clearFlag (addr : Word) (mask : Byte) : (s.clearFlag addr mask).hostInput = s.hostInput := rfl
@[simp] theorem State.cyclesOut_clearFlag (addr : Word) (mask : Byte) : (s.clearFlag addr mask).cyclesOut = s.cyclesOut := rfl
@[simp] theorem State.frameEvent_clearFlag (addr : Word) (mask : Byte) : (s.clearFlag addr mask).frameEvent = s.frameEvent := rfl

/-! ## write16 -/

@[simp] theorem State.a_write16 (addr v : Word) : (s.write16 addr v).a = s.a := rfl
@[simp] theorem State.f_write16 (addr v : Word) : (s.write16 addr v).f = s.f := rfl
@[simp] theorem State.b_write16 (addr v : Word) : (s.write16 addr v).b = s.b := rfl
@[simp] theorem State.c_write16 (addr v : Word) : (s.write16 addr v).c = s.c := rfl
@[simp] theorem State.d_write16 (addr v : Word) : (s.write16 addr v).d = s.d := rfl
@[simp] theorem State.e_write16 (addr v : Word) : (s.write16 addr v).e = s.e := rfl
@[simp] theorem State.h_write16 (addr v : Word) : (s.write16 addr v).h = s.h := rfl
@[simp] theorem State.l_write16 (addr v : Word) : (s.write16 addr v).l = s.l := rfl
@[simp] theorem State.sp_write16 (addr v : Word) : (s.write16 addr v).sp = s.sp := rfl
@[simp] theorem State.pc_write16 (addr v : Word) : (s.write16 addr v).pc = s.pc := rfl
@[simp] theorem State.ime_write16 (addr v : Word) : (s.write16 addr v).ime = s.ime := rfl
@[simp] theorem State.runState_write16 (addr v : Word) : (s.write16 addr v).runState = s.runState := rfl
@[simp] theorem State.fault_write16 (addr v : Word) : (s.write16 addr v).fault = s.fault := rfl
@[simp] theorem State.cycles_write16 (addr v : Word) : (s.write16 addr v).cycles = s.cycles := rfl
@[simp] theorem State.tStep_write16 (addr v : Word) : (s.write16 addr v).tStep = s.tStep := rfl
@[simp] theorem State.mStep_write16 (addr v : Word) : (s.write16 addr v).mStep = s.mStep := rfl
@[simp] theorem State.tTotal_write16 (addr v : Word) : (s.write16 addr v).tTotal = s.tTotal := rfl
@[simp] theorem State.mTotal_write16 (addr v : Word) : (s.write16 addr v).mTotal = s.mTotal := rfl
@[simp] theorem State.internalClock_write16 (addr v : Word) : (s.write16 addr v).internalClock = s.internalClock := rfl
@[simp] theorem State.prevHorizontalClock_write16 (addr v : Word) : (s.write16 addr v).prevHorizontalClock = s.prevHorizontalClock := rfl
@[simp] theorem State.prevVerticalClock_write16 (addr v : Word) : (s.write16 addr v).prevVerticalClock = s.prevVerticalClock := rfl
@[simp] theorem State.displayOn_write16 (addr v : Word) : (s.write16 addr v).displayOn = s.displayOn := rfl
@[simp] theorem State.fb_write16 (addr v : Word) : (s.write16 addr v).fb = s.fb := rfl
@[simp] theorem State.bgBases_write16 (addr v : Word) : (s.write16 addr v).bgBases = s.bgBases := rfl
@[simp] theorem State.running_write16 (addr v : Word) : (s.write16 addr v).running = s.running := rfl
@[simp] theorem State.hostInput_write16 (addr v : Word) : (s.write16 addr v).hostInput = s.hostInput := rfl
@[simp] theorem State.cyclesOut_write16 (addr v : Word) : (s.write16 addr v).cyclesOut = s.cyclesOut := rfl
@[simp] theorem State.frameEvent_write16 (addr v : Word) : (s.write16 addr v).frameEvent = s.frameEvent := rfl

/-! ## setHL -/

@[simp] theorem State.a_setHL (v : Word) : (s.setHL v).a = s.a := rfl
@[simp] theorem State.f_setHL (v : Word) : (s.setHL v).f = s.f := rfl
@[simp] theorem State.b_setHL (v : Word) : (s.setHL v).b = s.b := rfl
@[simp] theorem State.c_setHL (v : Word) : (s.setHL v).c = s.c := rfl
@[simp] theorem State.d_setHL (v : Word) : (s.setHL v).d = s.d := rfl
@[simp] theorem State.e_setHL (v : Word) : (s.setHL v).e = s.e := rfl
@[simp] theorem State.h_setHL (v : Word) : (s.setHL v).h = hiByte v := rfl
@[simp] theorem State.l_setHL (v : Word) : (s.setHL v).l = loByte v := rfl
@[simp] theorem State.sp_setHL (v : Word) : (s.setHL v).sp = s.sp := rfl
@[simp] theorem State.pc_setHL (v : Word) : (s.setHL v).pc = s.pc := rfl
@[simp] theorem State.ime_setHL (v : Word) : (s.setHL v).ime = s.ime := rfl
@[simp] theorem State.runState_setHL (v : Word) : (s.setHL v).runState = s.runState := rfl
@[simp] theorem State.fault_setHL (v : Word) : (s.setHL v).fault = s.fault := rfl
@[simp] theorem State.cycles_setHL (v : Word) : (s.setHL v).cycles = s.cycles := rfl
@[simp] theorem State.tStep_setHL (v : Word) : (s.setHL v).tStep = s.tStep := rfl
@[simp] theorem State.mStep_setHL (v : Word) : (s.setHL v).mStep = s.mStep := rfl
@[simp] theorem State.tTotal_setHL (v : Word) : (s.setHL v).tTotal = s.tTotal := rfl
@[simp] theorem State.mTotal_setHL (v : Word) : (s.setHL v).mTotal = s.mTotal := rfl
@[simp] theorem State.internalClock_setHL (v : Word) : (s.setHL v).internalClock = s.internalClock := rfl
@[simp] theorem State.prevHorizontalClock_setHL (v : Word) : (s.setHL v).prevHorizontalClock = s.prevHorizontalClock := rfl
@[simp] theorem State.prevVerticalClock_setHL (v : Word) : (s.setHL v).prevVerticalClock = s.prevVerticalClock := rfl
@[simp] theorem State.displayOn_setHL (v : Word) : (s.setHL v).displayOn = s.displayOn := rfl
@[simp] theorem State.fb_setHL (v : Word) : (s.setHL v).fb = s.fb := rfl
@[simp] theorem State.bgBases_setHL (v : Word) : (s.setHL v).bgBases = s.bgBases := rfl
@[simp] theorem State.mem_setHL (v : Word) : (s.setHL v).mem = s.mem := rfl
@[simp] theorem State.running_setHL (v : Word) : (s.setHL v).running = s.running := rfl
@[simp] theorem State.hostInput_setHL (v : Word) : (s.setHL v).hostInput = s.hostInput := rfl
@[simp] theorem State.cyclesOut_setHL (v : Word) : (s.setHL v).cyclesOut = s.cyclesOut := rfl
@[simp] theorem State.frameEvent_setHL (v : Word) : (s.setHL v).frameEvent = s.frameEvent := rfl

/-! ## push16 -/

@[simp] theorem State.a_push16 (v : Word) : (s.push16 v).a = s.a := rfl
@[simp] theorem State.f_push16 (v : Word) : (s.push16 v).f = s.f := rfl
@[simp] theorem State.b_push16 (v : Word) : (s.push16 v).b = s.b := rfl
@[simp] theorem State.c_push16 (v : Word) : (s.push16 v).c = s.c := rfl
@[simp] theorem State.d_push16 (v : Word) : (s.push16 v).d = s.d := rfl
@[simp] theorem State.e_push16 (v : Word) : (s.push16 v).e = s.e := rfl
@[simp] theorem State.h_push16 (v : Word) : (s.push16 v).h = s.h := rfl
@[simp] theorem State.l_push16 (v : Word) : (s.push16 v).l = s.l := rfl
@[simp] theorem State.sp_push16 (v : Word) : (s.push16 v).sp = s.sp - 2 := rfl
@[simp] theorem State.pc_push16 (v : Word) : (s.push16 v).pc = s.pc := rfl
@[simp] theorem State.ime_push16 (v : Word) : (s.push16 v).ime = s.ime := rfl
@[simp] theorem State.runState_push16 (v : Word) : (s.push16 v).runState = s.runState := rfl
@[simp] theorem State.fault_push16 (v : Word) : (s.push16 v).fault = s.fault := rfl
@[simp] theorem State.cycles_push16 (v : Word) : (s.push16 v).cycles = s.cycles := rfl
@[simp] theorem State.tStep_push16 (v : Word) : (s.push16 v).tStep = s.tStep := rfl
@[simp] theorem State.mStep_push16 (v : Word) : (s.push16 v).mStep = s.mStep := rfl
@[simp] theorem State.tTotal_push16 (v : Word) : (s.push16 v).tTotal = s.tTotal := rfl
@[simp] theorem State.mTotal_push16 (v : Word) : (s.push16 v).mTotal = s.mTotal := rfl
@[simp] theorem State.internalClock_push16 (v : Word) : (s.push16 v).internalClock = s.internalClock := rfl
@[simp] theorem State.prevHorizontalClock_push16 (v : Word) : (s.push16 v).prevHorizontalClock = s.prevHorizontalClock := rfl
@[simp] theorem State.prevVerticalClock_push16 (v : Word) : (s.push16 v).prevVerticalClock = s.prevVerticalClock := rfl
@[simp] theorem State.displayOn_push16 (v : Word) : (s.push16 v).displayOn = s.displayOn := rfl
@[simp] theorem State.fb_push16 (v : Word) : (s.push16 v).fb = s.fb := rfl
@[simp] theorem State.bgBases_push16 (v : Word) : (s.push16 v).bgBases = s.bgBases := rfl
@[simp] theorem State.running_push16 (v : Word) : (s.push16 v).running = s.running := rfl
@[simp] theorem State.hostInput_push16 (v : Word) : (s.push16 v).hostInput = s.hostInput := rfl
@[simp] theorem State.cyclesOut_push16 (v : Word) : (s.push16 v).cyclesOut = s.cyclesOut := rfl
@[simp] theorem State.frameEvent_push16 (v : Word) : (s.push16 v).frameEvent = s.frameEvent := rfl

/-! ## popped -/

@[simp] theorem State.a_popped : s.popped.a = s.a := rfl
@[simp] theorem State.f_popped : s.popped.f = s.f := rfl
@[simp] theorem State.b_popped : s.popped.b = s.b := rfl
@[simp] theorem State.c_popped : s.popped.c = s.c := rfl
@[simp] theorem State.d_popped : s.popped.d = s.d := rfl
@[simp] theorem State.e_popped : s.popped.e = s.e := rfl
@[simp] theorem State.h_popped : s.popped.h = s.h := rfl
@[simp] theorem State.l_popped : s.popped.l = s.l := rfl
@[simp] theorem State.sp_popped : s.popped.sp = s.sp + 2 := rfl
@[simp] theorem State.pc_popped : s.popped.pc = s.pc := rfl
@[simp] theorem State.ime_popped : s.popped.ime = s.ime := rfl
@[simp] theorem State.runState_popped : s.popped.runState = s.runState := rfl
@[simp] theorem State.fault_popped : s.popped.fault = s.fault := rfl
@[simp] theorem State.cycles_popped : s.popped.cycles = s.cycles := rfl
@[simp] theorem State.tStep_popped : s.popped.tStep = s.tStep := rfl
@[simp] theorem State.mStep_popped : s.popped.mStep = s.mStep := rfl
@[simp] theorem State.tTotal_popped : s.popped.tTotal = s.tTotal := rfl
@[simp] theorem State.mTotal_popped : s.popped.mTotal = s.mTotal := rfl
@[simp] theorem State.internalClock_popped : s.popped.internalClock = s.internalClock := rfl
@[simp] theorem State.prevHorizontalClock_popped : s.popped.prevHorizontalClock = s.prevHorizontalClock := rfl
@[simp] theorem State.prevVerticalClock_popped : s.popped.prevVerticalClock = s.prevVerticalClock := rfl
@[simp] theorem State.displayOn_popped : s.popped.displayOn = s.displayOn := rfl
@[simp] theorem State.fb_popped : s.popped.fb = s.fb := rfl
@[simp] theorem State.bgBases_popped : s.popped.bgBases = s.bgBases := rfl
@[simp] theorem State.mem_popped : s.popped.mem = s.mem := rfl
@[simp] theorem State.running_popped : s.popped.running = s.running := rfl
@[simp] theorem State.hostInput_popped : s.popped.hostInput = s.hostInput := rfl
@[simp] theorem State.cyclesOut_popped : s.popped.cyclesOut = s.cyclesOut := rfl
@[simp] theorem State.frameEvent_popped : s.popped.frameEvent = s.frameEvent := rfl

/-! ## goto -/

@[simp] theorem State.a_goto (target : Word) (n : Nat) : (s.goto target n).a = s.a := rfl
@[simp] theorem State.f_goto (target : Word) (n : Nat) : (s.goto target n).f = s.f := rfl
@[simp] theorem State.b_goto (target : Word) (n : Nat) : (s.goto target n).b = s.b := rfl
@[simp] theorem State.c_goto (target : Word) (n : Nat) : (s.goto target n).c = s.c := rfl
@[simp] theorem State.d_goto (target : Word) (n : Nat) : (s.goto target n).d = s.d := rfl
@[simp] theorem State.e_goto (target : Word) (n : Nat) : (s.goto target n).e = s.e := rfl
@[simp] theorem State.h_goto (target : Word) (n : Nat) : (s.goto target n).h = s.h := rfl
@[simp] theorem State.l_goto (target : Word) (n : Nat) : (s.goto target n).l = s.l := rfl
@[simp] theorem State.sp_goto (target : Word) (n : Nat) : (s.goto target n).sp = s.sp := rfl
@[simp] theorem State.pc_goto (target : Word) (n : Nat) : (s.goto target n).pc = target := rfl
@[simp] theorem State.ime_goto (target : Word) (n : Nat) : (s.goto target n).ime = s.ime := rfl
@[simp] theorem State.runState_goto (target : Word) (n : Nat) : (s.goto target n).runState = s.runState := rfl
@[simp] theorem State.fault_goto (target : Word) (n : Nat) : (s.goto target n).fault = s.fault := rfl
@[simp] theorem State.cycles_goto (target : Word) (n : Nat) : (s.goto target n).cycles = n := rfl
@[simp] theorem State.tStep_goto (target : Word) (n : Nat) : (s.goto target n).tStep = s.tStep := rfl
@[simp] theorem State.mStep_goto (target : Word) (n : Nat) : (s.goto target n).mStep = s.mStep := rfl
@[simp] theorem State.tTotal_goto (target : Word) (n : Nat) : (s.goto target n).tTotal = s.tTotal := rfl
@[simp] theorem State.mTotal_goto (target : Word) (n : Nat) : (s.goto target n).mTotal = s.mTotal := rfl
@[simp] theorem State.internalClock_goto (target : Word) (n : Nat) : (s.goto target n).internalClock = s.internalClock := rfl
@[simp] theorem State.prevHorizontalClock_goto (target : Word) (n : Nat) : (s.goto target n).prevHorizontalClock = s.prevHorizontalClock := rfl
@[simp] theorem State.prevVerticalClock_goto (target : Word) (n : Nat) : (s.goto target n).prevVerticalClock = s.prevVerticalClock := rfl
@[simp] theorem State.displayOn_goto (target : Word) (n : Nat) : (s.goto target n).displayOn = s.displayOn := rfl
@[simp] theorem State.fb_goto (target : Word) (n : Nat) : (s.goto target n).fb = s.fb := rfl
@[simp] theorem State.bgBases_goto (target : Word) (n : Nat) : (s.goto target n).bgBases = s.bgBases := rfl
@[simp] theorem State.mem_goto (target : Word) (n : Nat) : (s.goto target n).mem = s.mem := rfl
@[simp] theorem State.running_goto (target : Word) (n : Nat) : (s.goto target n).running = s.running := rfl
@[simp] theorem State.hostInput_goto (target : Word) (n : Nat) : (s.goto target n).hostInput = s.hostInput := rfl
@[simp] theorem State.cyclesOut_goto (target : Word) (n : Nat) : (s.goto target n).cyclesOut = s.cyclesOut := rfl
@[simp] theorem State.frameEvent_goto (target : Word) (n : Nat) : (s.goto target n).frameEvent = s.frameEvent := rfl

/-! ## retire -/

@[simp] theorem State.a_retire (len : Word) (n : Nat) : (s.retire len n).a = s.a := rfl
@[simp] theorem State.f_retire (len : Word) (n : Nat) : (s.retire len n).f = s.f := rfl
@[simp] theorem State.b_retire (len : Word) (n : Nat) : (s.retire len n).b = s.b := rfl
@[simp] theorem State.c_retire (len : Word) (n : Nat) : (s.retire len n).c = s.c := rfl
@[simp] theorem State.d_retire (len : Word) (n : Nat) : (s.retire len n).d = s.d := rfl
@[simp] theorem State.e_retire (len : Word) (n : Nat) : (s.retire len n).e = s.e := rfl
@[simp] theorem State.h_retire (len : Word) (n : Nat) : (s.retire len n).h = s.h := rfl
@[simp] theorem State.l_retire (len : Word) (n : Nat) : (s.retire len n).l = s.l := rfl
@[simp] theorem State.sp_retire (len : Word) (n : Nat) : (s.retire len n).sp = s.sp := rfl
@[simp] theorem State.pc_retire (len : Word) (n : Nat) : (s.retire len n).pc = s.pc + len := rfl
@[simp] theorem State.ime_retire (len : Word) (n : Nat) : (s.retire len n).ime = s.ime := rfl
@[simp] theorem State.runState_retire (len : Word) (n : Nat) : (s.retire len n).runState = s.runState := rfl
@[simp] theorem State.fault_retire (len : Word) (n : Nat) : (s.retire len n).fault = s.fault := rfl
@[simp] theorem State.cycles_retire (len : Word) (n : Nat) : (s.retire len n).cycles = n := rfl
@[simp] theorem State.tStep_retire (len : Word) (n : Nat) : (s.retire len n).tStep = s.tStep := rfl
@[simp] theorem State.mStep_retire (len : Word) (n : Nat) : (s.retire len n).mStep = s.mStep := rfl
@[simp] theorem State.tTotal_retire (len : Word) (n : Nat) : (s.retire len n).tTotal = s.tTotal := rfl
@[simp] theorem State.mTotal_retire (len : Word) (n : Nat) : (s.retire len n).mTotal = s.mTotal := rfl
@[simp] theorem State.internalClock_retire (len : Word) (n : Nat) : (s.retire len n).internalClock = s.internalClock := rfl
@[simp] theorem State.prevHorizontalClock_retire (len : Word) (n : Nat) : (s.retire len n).prevHorizontalClock = s.prevHorizontalClock := rfl
@[simp] theorem State.prevVerticalClock_retire (len : Word) (n : Nat) : (s.retire len n).prevVerticalClock = s.prevVerticalClock := rfl
@[simp] theorem State.displayOn_retire (len : Word) (n : Nat) : (s.retire len n).displayOn = s.displayOn := rfl
@[simp] theorem State.fb_retire (len : Word) (n : Nat) : (s.retire len n).fb = s.fb := rfl
@[simp] theorem State.bgBases_retire (len : Word) (n : Nat) : (s.retire len n).bgBases = s.bgBases := rfl
@[simp] theorem State.mem_retire (len : Word) (n : Nat) : (s.retire len n).mem = s.mem := rfl
@[simp] theorem State.running_retire (len : Word) (n : Nat) : (s.retire len n).running = s.running := rfl
@[simp] theorem State.hostInput_retire (len : Word) (n : Nat) : (s.retire len n).hostInput = s.hostInput := rfl
@[simp] theorem State.cyclesOut_retire (len : Word) (n : Nat) : (s.retire len n).cyclesOut = s.cyclesOut := rfl
@[simp] theorem State.frameEvent_retire (len : Word) (n : Nat) : (s.retire len n).frameEvent = s.frameEvent := rfl

/-! ## setFlags -/

@[simp] theorem State.a_setFlags (fl : Flags) : (s.setFlags fl).a = s.a := rfl
@[simp] theorem State.f_setFlags (fl : Flags) : (s.setFlags fl).f = packFlags fl s.f := rfl
@[simp] theorem State.b_setFlags (fl : Flags) : (s.setFlags fl).b = s.b := rfl
@[simp] theorem State.c_setFlags (fl : Flags) : (s.setFlags fl).c = s.c := rfl
@[simp] theorem State.d_setFlags (fl : Flags) : (s.setFlags fl).d = s.d := rfl
@[simp] theorem State.e_setFlags (fl : Flags) : (s.setFlags fl).e = s.e := rfl
@[simp] theorem State.h_setFlags (fl : Flags) : (s.setFlags fl).h = s.h := rfl
@[simp] theorem State.l_setFlags (fl : Flags) : (s.setFlags fl).l = s.l := rfl
@[simp] theorem State.sp_setFlags (fl : Flags) : (s.setFlags fl).sp = s.sp := rfl
@[simp] theorem State.pc_setFlags (fl : Flags) : (s.setFlags fl).pc = s.pc := rfl
@[simp] theorem State.ime_setFlags (fl : Flags) : (s.setFlags fl).ime = s.ime := rfl
@[simp] theorem State.runState_setFlags (fl : Flags) : (s.setFlags fl).runState = s.runState := rfl
@[simp] theorem State.fault_setFlags (fl : Flags) : (s.setFlags fl).fault = s.fault := rfl
@[simp] theorem State.cycles_setFlags (fl : Flags) : (s.setFlags fl).cycles = s.cycles := rfl
@[simp] theorem State.tStep_setFlags (fl : Flags) : (s.setFlags fl).tStep = s.tStep := rfl
@[simp] theorem State.mStep_setFlags (fl : Flags) : (s.setFlags fl).mStep = s.mStep := rfl
@[simp] theorem State.tTotal_setFlags (fl : Flags) : (s.setFlags fl).tTotal = s.tTotal := rfl
@[simp] theorem State.mTotal_setFlags (fl : Flags) : (s.setFlags fl).mTotal = s.mTotal := rfl
@[simp] theorem State.internalClock_setFlags (fl : Flags) : (s.setFlags fl).internalClock = s.internalClock := rfl
@[simp] theorem State.prevHorizontalClock_setFlags (fl : Flags) : (s.setFlags fl).prevHorizontalClock = s.prevHorizontalClock := rfl
@[simp] theorem State.prevVerticalClock_setFlags (fl : Flags) : (s.setFlags fl).prevVerticalClock = s.prevVerticalClock := rfl
@[simp] theorem State.displayOn_setFlags (fl : Flags) : (s.setFlags fl).displayOn = s.displayOn := rfl
@[simp] theorem State.fb_setFlags (fl : Flags) : (s.setFlags fl).fb = s.fb := rfl
@[simp] theorem State.bgBases_setFlags (fl : Flags) : (s.setFlags fl).bgBases = s.bgBases := rfl
@[simp] theorem State.mem_setFlags (fl : Flags) : (s.setFlags fl).mem = s.mem := rfl
@[simp] theorem State.running_setFlags (fl : Flags) : (s.setFlags fl).running = s.running := rfl
@[simp] theorem State.hostInput_setFlags (fl : Flags) : (s.setFlags fl).hostInput = s.hostInput := rfl
@[simp] theorem State.cyclesOut_setFlags (fl : Flags) : (s.setFlags fl).cyclesOut = s.cyclesOut := rfl
@[simp] theorem State.frameEvent_setFlags (fl : Flags) : (s.setFlags fl).frameEvent = s.frameEvent := rfl

/-! ## raiseUndefined -/

@[simp] theorem State.a_raiseUndefined (op : Byte) : (s.raiseUndefined op).a = s.a := rfl
@[simp] theorem State.f_raiseUndefined (op : Byte) : (s.raiseUndefined op).f = s.f := rfl
@[simp] theorem State.b_raiseUndefined (op : Byte) : (s.raiseUndefined op).b = s.b := rfl
@[simp] theorem State.c_raiseUndefined (op : Byte) : (s.raiseUndefined op).c = s.c := rfl
@[simp] theorem State.d_raiseUndefined (op : Byte) : (s.raiseUndefined op).d = s.d := rfl
@[simp] theorem State.e_raiseUndefined (op : Byte) : (s.raiseUndefined op).e = s.e := rfl
@[simp] theorem State.h_raiseUndefined (op : Byte) : (s.raiseUndefined op).h = s.h := rfl
@[simp] theorem State.l_raiseUndefined (op : Byte) : (s.raiseUndefined op).l = s.l := rfl
@[simp] theorem State.sp_raiseUndefined (op : Byte) : (s.raiseUndefined op).sp = s.sp := rfl
@[simp] theorem State.pc_raiseUndefined (op : Byte) : (s.raiseUndefined op).pc = s.pc := rfl
@[simp] theorem State.ime_raiseUndefined (op : Byte) : (s.raiseUndefined op).ime = s.ime := rfl
@[simp] theorem State.runState_raiseUndefined (op : Byte) : (s.raiseUndefined op).runState = .faulted := rfl
@[simp] theorem State.fault_raiseUndefined (op : Byte) : (s.raiseUndefined op).fault = some { opcode := op, addr := s.pc } := rfl
@[simp] theorem State.cycles_raiseUndefined (op : Byte) : (s.raiseUndefined op).cycles = s.cycles := rfl
@[simp] theorem State.tStep_raiseUndefined (op : Byte) : (s.raiseUndefined op).tStep = s.tStep := rfl
@[simp] theorem State.mStep_raiseUndefined (op : Byte) : (s.raiseUndefined op).mStep = s.mStep := rfl
@[simp] theorem State.tTotal_raiseUndefined (op : Byte) : (s.raiseUndefined op).tTotal = s.tTotal := rfl
@[simp] theorem State.mTotal_raiseUndefined (op : Byte) : (s.raiseUndefined op).mTotal = s.mTotal := rfl
@[simp] theorem State.internalClock_raiseUndefined (op : Byte) : (s.raiseUndefined op).internalClock = s.internalClock := rfl
@[simp] theorem State.prevHorizontalClock_raiseUndefined (op : Byte) : (s.raiseUndefined op).prevHorizontalClock = s.prevHorizontalClock := rfl
@[simp] theorem State.prevVerticalClock_raiseUndefined (op : Byte) : (s.raiseUndefined op).prevVerticalClock = s.prevVerticalClock := rfl
@[simp] theorem State.displayOn_raiseUndefined (op : Byte) : (s.raiseUndefined op).displayOn = s.displayOn := rfl
@[simp] theorem State.fb_raiseUndefined (op : Byte) : (s.raiseUndefined op).fb = s.fb := rfl
@[simp] theorem State.bgBases_raiseUndefined (op : Byte) : (s.raiseUndefined op).bgBases = s.bgBases := rfl
@[simp] theorem State.mem_raiseUndefined (op : Byte) : (s.raiseUndefined op).mem = s.mem := rfl
@[simp] theorem State.running_raiseUndefined (op : Byte) : (s.raiseUndefined op).running = s.running := rfl
@[simp] theorem State.hostInput_raiseUndefined (op : Byte) : (s.raiseUndefined op).hostInput = s.hostInput := rfl
@[simp] theorem State.cyclesOut_raiseUndefined (op : Byte) : (s.raiseUndefined op).cyclesOut = s.cyclesOut := rfl
@[simp] theorem State.frameEvent_raiseUndefined (op : Byte) : (s.raiseUndefined op).frameEvent = s.frameEvent := rfl

/-! ## returnFromInterrupt -/

@[simp] theorem State.a_returnFromInterrupt : s.returnFromInterrupt.a = s.a := rfl
@[simp] theorem State.f_returnFromInterrupt : s.returnFromInterrupt.f = s.f := rfl
@[simp] theorem State.b_returnFromInterrupt : s.returnFromInterrupt.b = s.b := rfl
@[simp] theorem State.c_returnFromInterrupt : s.returnFromInterrupt.c = s.c := rfl
@[simp] theorem State.d_returnFromInterrupt : s.returnFromInterrupt.d = s.d := rfl
@[simp] theorem State.e_returnFromInterrupt : s.returnFromInterrupt.e = s.e := rfl
@[simp] theorem State.h_returnFromInterrupt : s.returnFromInterrupt.h = s.h := rfl
@[simp] theorem State.l_returnFromInterrupt : s.returnFromInterrupt.l = s.l := rfl
@[simp] theorem State.sp_returnFromInterrupt : s.returnFromInterrupt.sp = s.sp + 2 := rfl
@[simp] theorem State.pc_returnFromInterrupt : s.returnFromInterrupt.pc = s.popValue := rfl
@[simp] theorem State.ime_returnFromInterrupt : s.returnFromInterrupt.ime = true := rfl
@[simp] theorem State.runState_returnFromInterrupt : s.returnFromInterrupt.runState = s.runState := rfl
@[simp] theorem State.fault_returnFromInterrupt : s.returnFromInterrupt.fault = s.fault := rfl
@[simp] theorem State.cycles_returnFromInterrupt : s.returnFromInterrupt.cycles = s.cycles := rfl
@[simp] theorem State.tStep_returnFromInterrupt : s.returnFromInterrupt.tStep = s.tStep := rfl
@[simp] theorem State.mStep_returnFromInterrupt : s.returnFromInterrupt.mStep = s.mStep := rfl
@[simp] theorem State.tTotal_returnFromInterrupt : s.returnFromInterrupt.tTotal = s.tTotal := rfl
@[simp] theorem State.mTotal_returnFromInterrupt : s.returnFromInterrupt.mTotal = s.mTotal := rfl
@[simp] theorem State.internalClock_returnFromInterrupt : s.returnFromInterrupt.internalClock = s.internalClock := rfl
@[simp] theorem State.prevHorizontalClock_returnFromInterrupt : s.returnFromInterrupt.prevHorizontalClock = s.prevHorizontalClock := rfl
@[simp] theorem State.prevVerticalClock_returnFromInterrupt : s.returnFromInterrupt.prevVerticalClock = s.prevVerticalClock := rfl
@[simp] theorem State.displayOn_returnFromInterrupt : s.returnFromInterrupt.displayOn = s.displayOn := rfl
@[simp] theorem State.fb_returnFromInterrupt : s.returnFromInterrupt.fb = s.fb := rfl
@[simp] theorem State.bgBases_returnFromInterrupt : s.returnFromInterrupt.bgBases = s.bgBases := rfl
@[simp] theorem State.mem_returnFromInterrupt : s.returnFromInterrupt.mem = s.mem := rfl
@[simp] theorem State.running_returnFromInterrupt : s.returnFromInterrupt.running = s.running := rfl
@[simp] theorem State.hostInput_returnFromInterrupt : s.returnFromInterrupt.hostInput = s.hostInput := rfl
@[simp] theorem State.cyclesOut_returnFromInterrupt : s.returnFromInterrupt.cyclesOut = s.cyclesOut := rfl
@[simp] theorem State.frameEvent_returnFromInterrupt : s.returnFromInterrupt.frameEvent = s.frameEvent := rfl

/-! ## takeInterrupt -/

@[simp] theorem State.a_takeInterrupt (i : Nat) : (s.takeInterrupt i).a = s.a := rfl
@[simp] theorem State.f_takeInterrupt (i : Nat) : (s.takeInterrupt i).f = s.f := rfl
@[simp] theorem State.b_takeInterrupt (i : Nat) : (s.takeInterrupt i).b = s.b := rfl
@[simp] theorem State.c_takeInterrupt (i : Nat) : (s.takeInterrupt i).c = s.c := rfl
@[simp] theorem State.d_takeInterrupt (i : Nat) : (s.takeInterrupt i).d = s.d := rfl
@[simp] theorem State.e_takeInterrupt (i : Nat) : (s.takeInterrupt i).e = s.e := rfl
@[simp] theorem State.h_takeInterrupt (i : Nat) : (s.takeInterrupt i).h = s.h := rfl
@[simp] theorem State.l_takeInterrupt (i : Nat) : (s.takeInterrupt i).l = s.l := rfl
@[simp] theorem State.sp_takeInterrupt (i : Nat) : (s.takeInterrupt i).sp = s.sp - 2 := rfl
@[simp] theorem State.pc_takeInterrupt (i : Nat) : (s.takeInterrupt i).pc = Config.vectorBase + 8 * BitVec.ofNat 16 i := rfl
@[simp] theorem State.ime_takeInterrupt (i : Nat) : (s.takeInterrupt i).ime = false := rfl
@[simp] theorem State.runState_takeInterrupt (i : Nat) : (s.takeInterrupt i).runState = s.runState := rfl
@[simp] theorem State.fault_takeInterrupt (i : Nat) : (s.takeInterrupt i).fault = s.fault := rfl
@[simp] theorem State.cycles_takeInterrupt (i : Nat) : (s.takeInterrupt i).cycles = s.cycles := rfl
@[simp] theorem State.tStep_takeInterrupt (i : Nat) : (s.takeInterrupt i).tStep = s.tStep := rfl
@[simp] theorem State.mStep_takeInterrupt (i : Nat) : (s.takeInterrupt i).mStep = s.mStep := rfl
@[simp] theorem State.tTotal_takeInterrupt (i : Nat) : (s.takeInterrupt i).tTotal = s.tTotal := rfl
@[simp] theorem State.mTotal_takeInterrupt (i : Nat) : (s.takeInterrupt i).mTotal = s.mTotal := rfl
@[simp] theorem State.internalClock_takeInterrupt (i : Nat) : (s.takeInterrupt i).internalClock = s.internalClock := rfl
@[simp] theorem State.prevHorizontalClock_takeInterrupt (i : Nat) : (s.takeInterrupt i).prevHorizontalClock = s.prevHorizontalClock := rfl
@[simp] theorem State.prevVerticalClock_takeInterrupt (i : Nat) : (s.takeInterrupt i).prevVerticalClock = s.prevVerticalClock := rfl
@[simp] theorem State.displayOn_takeInterrupt (i : Nat) : (s.takeInterrupt i).displayOn = s.displayOn := rfl
@[simp] theorem State.fb_takeInterrupt (i : Nat) : (s.takeInterrupt i).fb = s.fb := rfl
@[simp] theorem State.bgBases_takeInterrupt (i : Nat) : (s.takeInterrupt i).bgBases = s.bgBases := rfl
@[simp] theorem State.running_takeInterrupt (i : Nat) : (s.takeInterrupt i).running = s.running := rfl
@[simp] theorem State.hostInput_takeInterrupt (i : Nat) : (s.takeInterrupt i).hostInput = s.hostInput := rfl
@[simp] theorem State.cyclesOut_takeInterrupt (i : Nat) : (s.takeInterrupt i).cyclesOut = s.cyclesOut := rfl
@[simp] theorem State.frameEvent_takeInterrupt (i : Nat) : (s.takeInterrupt i).frameEvent = s.frameEvent := rfl

end Sys2Proof.Machine
end

