-- ==== Sys2Proof/Laws/Ops.lean ====
section
/-! SUPPORT. One lemma per shared operation over memory, registers and the stack: everything it can do. -/

namespace Sys2Proof.Machine

variable (s : State)

/-! ## Bytes -/

@[simp] theorem State.read8_write8 (addr other : Word) (v : Byte) :
    (s.write8 addr v).read8 other = if other = addr then v else s.read8 other :=
  Memory.read_write s.mem addr other v

/-- An update that leaves memory leaves every byte. -/
theorem State.read8_congr {s t : State} (h : t.mem = s.mem) (addr : Word) : t.read8 addr = s.read8 addr := by
  simp [State.read8, h]

@[simp] theorem State.read8_setFlag (addr other : Word) (mask : Byte) :
    (s.setFlag addr mask).read8 other = if other = addr then s.read8 addr ||| mask else s.read8 other := by
  simp [State.setFlag]

@[simp] theorem State.read8_clearFlag (addr other : Word) (mask : Byte) :
    (s.clearFlag addr mask).read8 other = if other = addr then s.read8 addr &&& ~~~mask else s.read8 other := by
  simp [State.clearFlag]

/-! ## Words -/

/-- The next address is another one. -/
theorem succ_ne_self (addr : Word) : addr + 1 ≠ addr := by bv_omega

@[simp] theorem State.read8_write16 (addr other v : Word) :
    (s.write16 addr v).read8 other =
      if other = addr + 1 then hiByte v else if other = addr then loByte v else s.read8 other := by
  simp [State.write16]

@[simp] theorem State.read8_push16 (v other : Word) :
    (s.push16 v).read8 other =
      if other = s.sp - 2 + 1 then hiByte v else if other = s.sp - 2 then loByte v else s.read8 other := by
  simp only [State.push16, State.read8_write16]
  rfl

/-! ## Registers -/

@[simp] theorem State.get8_set8 (r q : Reg8) (v : Byte) :
    (s.set8 r v).get8 q = if q = r then v else s.get8 q := by
  cases r <;> cases q <;> rfl

@[simp] theorem State.f_set8 (r : Reg8) (v : Byte) : (s.set8 r v).f = s.f := by cases r <;> rfl
@[simp] theorem State.sp_set8 (r : Reg8) (v : Byte) : (s.set8 r v).sp = s.sp := by cases r <;> rfl
@[simp] theorem State.pc_set8 (r : Reg8) (v : Byte) : (s.set8 r v).pc = s.pc := by cases r <;> rfl
@[simp] theorem State.mem_set8 (r : Reg8) (v : Byte) : (s.set8 r v).mem = s.mem := by cases r <;> rfl
@[simp] theorem State.ime_set8 (r : Reg8) (v : Byte) : (s.set8 r v).ime = s.ime := by cases r <;> rfl
@[simp] theorem State.runState_set8 (r : Reg8) (v : Byte) : (s.set8 r v).runState = s.runState := by cases r <;> rfl
@[simp] theorem State.fault_set8 (r : Reg8) (v : Byte) : (s.set8 r v).fault = s.fault := by cases r <;> rfl

/-! ## Flags -/

/-- What packing does to each bit of F: bits 7:4 are the flags, bits 3:0 stay (R12, R23). -/
theorem packFlags_bits (fl : Flags) (f : Byte) :
    (packFlags fl f).getLsbD 7 = fl.z ∧ (packFlags fl f).getLsbD 6 = fl.n ∧ (packFlags fl f).getLsbD 5 = fl.h ∧
    (packFlags fl f).getLsbD 4 = fl.c ∧ (packFlags fl f).extractLsb' 0 4 = f.extractLsb' 0 4 := by
  obtain ⟨z, n, h, c⟩ := fl
  revert f
  cases z <;> cases n <;> cases h <;> cases c <;> decide +kernel

@[simp] theorem packFlags_z (fl : Flags) (f : Byte) : (packFlags fl f).getLsbD 7 = fl.z := (packFlags_bits fl f).1
@[simp] theorem packFlags_n (fl : Flags) (f : Byte) : (packFlags fl f).getLsbD 6 = fl.n := (packFlags_bits fl f).2.1
@[simp] theorem packFlags_h (fl : Flags) (f : Byte) : (packFlags fl f).getLsbD 5 = fl.h := (packFlags_bits fl f).2.2.1
@[simp] theorem packFlags_c (fl : Flags) (f : Byte) : (packFlags fl f).getLsbD 4 = fl.c := (packFlags_bits fl f).2.2.2.1
@[simp] theorem packFlags_low (fl : Flags) (f : Byte) : (packFlags fl f).extractLsb' 0 4 = f.extractLsb' 0 4 :=
  (packFlags_bits fl f).2.2.2.2

/-! ## Halves of a word (R21) -/

theorem getLsbD_joinBytes (hi lo : Byte) (i : Nat) :
    (joinBytes hi lo).getLsbD i = if i < 8 then lo.getLsbD i else hi.getLsbD (i - 8) := by
  have h : (hi ++ lo).getLsbD i = _ := BitVec.getLsbD_append
  simpa using h

theorem hiByte_joinBytes (hi lo : Byte) : hiByte (joinBytes hi lo) = hi := by
  apply BitVec.eq_of_getLsbD_eq
  intro i hi'
  rw [hiByte, BitVec.getLsbD_extractLsb', getLsbD_joinBytes]
  simp [hi']

theorem loByte_joinBytes (hi lo : Byte) : loByte (joinBytes hi lo) = lo := by
  apply BitVec.eq_of_getLsbD_eq
  intro i hi'
  rw [loByte, BitVec.getLsbD_extractLsb', getLsbD_joinBytes]
  simp [hi']

theorem joinBytes_halves (w : Word) : joinBytes (hiByte w) (loByte w) = w := by
  apply BitVec.eq_of_getLsbD_eq
  intro i hi'
  rw [getLsbD_joinBytes, hiByte, loByte, BitVec.getLsbD_extractLsb', BitVec.getLsbD_extractLsb']
  split
  · next h => simp [h]
  · next h => rw [show 8 + (i - 8) = i by omega]; simp; omega

@[simp] theorem State.hl_setHL (v : Word) : (s.setHL v).hl = v := joinBytes_halves v

/-! ## Reading a byte after an update that stores nothing -/

@[simp] theorem State.read8_goto (target : Word) (n : Nat) (addr : Word) : (s.goto target n).read8 addr = s.read8 addr := rfl
@[simp] theorem State.read8_retire (len : Word) (n : Nat) (addr : Word) : (s.retire len n).read8 addr = s.read8 addr := rfl
@[simp] theorem State.read8_setFlags (fl : Flags) (addr : Word) : (s.setFlags fl).read8 addr = s.read8 addr := rfl
@[simp] theorem State.read8_setHL (v addr : Word) : (s.setHL v).read8 addr = s.read8 addr := rfl
@[simp] theorem State.read8_popped (addr : Word) : s.popped.read8 addr = s.read8 addr := rfl
@[simp] theorem State.read8_set8 (r : Reg8) (v : Byte) (addr : Word) : (s.set8 r v).read8 addr = s.read8 addr :=
  State.read8_congr (State.mem_set8 s r v) addr

end Sys2Proof.Machine
end

