-- ==== Sys2Proof/Laws/Exec.lean ====
section
/-! SUPPORT. `exec` of every row of a group is the group's one meaning: proofs rewrite with these and never unfold the
dispatch. -/

namespace Sys2Proof.Machine

variable (s : State)

/-! ## The base table -/

theorem exec_rowLd (dst src : Operand8) (h : ¬ (dst = .atHL ∧ src = .atHL)) :
    exec (rowLd dst src) s = loadOperand dst src s := by
  rcases dst with dst | _ <;> rcases src with src | _
  · cases dst <;> cases src <;> rfl
  · cases dst <;> rfl
  · cases src <;> rfl
  · exact absurd ⟨rfl, rfl⟩ h

theorem exec_rowLdImm (o : Operand8) (d8 : Byte) : exec (rowLdImm o d8) s = loadImmediate o d8 s := by
  rcases o with r | _
  · cases r <;> rfl
  · rfl

theorem exec_rowStoreA (ia : IndirectAddr) : exec (rowStoreA ia) s = storeA ia s := by cases ia <;> rfl

theorem exec_rowLoadA (ia : IndirectAddr) : exec (rowLoadA ia) s = loadA ia s := by cases ia <;> rfl

theorem exec_rowInc (o : Operand8) : exec (rowInc o) s = incOperand o s := by
  rcases o with r | _
  · cases r <;> rfl
  · rfl

theorem exec_rowDec (o : Operand8) : exec (rowDec o) s = decOperand o s := by
  rcases o with r | _
  · cases r <;> rfl
  · rfl

theorem exec_rowAlu (op : AluOp) (o : Operand8) : exec (rowAlu op o) s = accumulateOperand op o s := by
  rcases o with r | _
  · cases op <;> cases r <;> rfl
  · cases op <;> rfl

theorem exec_rowAluImm (op : AluOp) (d8 : Byte) : exec (rowAluImm op d8) s = accumulateImmediate op d8 s := by
  cases op <;> rfl

theorem exec_rowLdPair (p : Pair) (d16 : Word) : exec (rowLdPair p d16) s = loadPair p d16 s := by cases p <;> rfl

theorem exec_rowIncPair (p : Pair) : exec (rowIncPair p) s = incPair p s := by cases p <;> rfl

theorem exec_rowDecPair (p : Pair) : exec (rowDecPair p) s = decPair p s := by cases p <;> rfl

theorem exec_rowAddHL (p : Pair) : exec (rowAddHL p) s = addToHL p s := by cases p <;> rfl

theorem exec_rowPush (p : StackPair) : exec (rowPush p) s = pushPair p s := by cases p <;> rfl

theorem exec_rowPop (p : StackPair) : exec (rowPop p) s = popPair p s := by cases p <;> rfl

theorem exec_rowJrCond (cc : Cond) (e8 : Byte) : exec (rowJrCond cc e8) s = jumpRelativeIf cc e8 s := by cases cc <;> rfl

theorem exec_rowJpCond (cc : Cond) (a16 : Word) : exec (rowJpCond cc a16) s = jumpIf cc a16 s := by cases cc <;> rfl

theorem exec_rowCallCond (cc : Cond) (a16 : Word) : exec (rowCallCond cc a16) s = callIf cc a16 s := by cases cc <;> rfl

theorem exec_rowRetCond (cc : Cond) : exec (rowRetCond cc) s = returnIf cc s := by cases cc <;> rfl

theorem exec_rowRst (y : Fin 8) : exec (rowRst y) s = restart y s := by fin_cases y <;> rfl

/-! ## The extended table -/

theorem exec_rowRot (op : RotOp) (o : Operand8) : exec (rowRot op o) s = rotateOperand op o s := by
  rcases o with r | _
  · cases op <;> cases r <;> rfl
  · cases op <;> rfl

theorem exec_rowBit (n : Fin 8) (o : Operand8) : exec (rowBit n o) s = testBit n o s := by
  rcases o with r | _
  · fin_cases n <;> cases r <;> rfl
  · fin_cases n <;> rfl

theorem exec_rowRes (n : Fin 8) (o : Operand8) : exec (rowRes n o) s = resetBit n o s := by
  rcases o with r | _
  · fin_cases n <;> cases r <;> rfl
  · fin_cases n <;> rfl

theorem exec_rowSet (n : Fin 8) (o : Operand8) : exec (rowSet n o) s = setBit n o s := by
  rcases o with r | _
  · fin_cases n <;> cases r <;> rfl
  · fin_cases n <;> rfl

end Sys2Proof.Machine
end

