-- ==== Sys2Proof/Laws/Rows.lean ====
section
/-! SUPPORT. The rows of the two opcode tables as groups: a property of every instruction, proved group by group. -/

namespace Sys2Proof

/-- What holds of every row of every group and of every row that stands alone holds of every instruction. Use it with
`induction i using Instr.row_cases`. -/
theorem Instr.row_cases {P : Instr → Prop}
    (ld : ∀ (dst src : Operand8) (_ : ¬ (dst = .atHL ∧ src = .atHL)), P (rowLd dst src))
    (ldImm : ∀ (o : Operand8) (d8 : Byte), P (rowLdImm o d8))
    (storeA : ∀ (ia : IndirectAddr), P (rowStoreA ia))
    (loadA : ∀ (ia : IndirectAddr), P (rowLoadA ia))
    (inc : ∀ (o : Operand8), P (rowInc o))
    (dec : ∀ (o : Operand8), P (rowDec o))
    (alu : ∀ (op : AluOp) (o : Operand8), P (rowAlu op o))
    (aluImm : ∀ (op : AluOp) (d8 : Byte), P (rowAluImm op d8))
    (ldPair : ∀ (p : Pair) (d16 : Word), P (rowLdPair p d16))
    (addHL : ∀ (p : Pair), P (rowAddHL p))
    (incPair : ∀ (p : Pair), P (rowIncPair p))
    (decPair : ∀ (p : Pair), P (rowDecPair p))
    (push : ∀ (p : StackPair), P (rowPush p))
    (pop : ∀ (p : StackPair), P (rowPop p))
    (jrCond : ∀ (cc : Cond) (e8 : Byte), P (rowJrCond cc e8))
    (jpCond : ∀ (cc : Cond) (a16 : Word), P (rowJpCond cc a16))
    (callCond : ∀ (cc : Cond) (a16 : Word), P (rowCallCond cc a16))
    (retCond : ∀ (cc : Cond), P (rowRetCond cc))
    (rst : ∀ (y : Fin 8), P (rowRst y))
    (rot : ∀ (op : RotOp) (o : Operand8), P (rowRot op o))
    (bit : ∀ (n : Fin 8) (o : Operand8), P (rowBit n o))
    (res : ∀ (n : Fin 8) (o : Operand8), P (rowRes n o))
    (set : ∀ (n : Fin 8) (o : Operand8), P (rowSet n o))
    (nop : P .nop)
    (rlca : P .rlca)
    (ldAtA16SP : ∀ a16 : Word, P (.ldAtA16SP a16))
    (rrca : P .rrca)
    (stop : ∀ pad : Byte, P (.stop pad))
    (rla : P .rla)
    (jrE8 : ∀ e8 : Byte, P (.jrE8 e8))
    (rra : P .rra)
    (daa : P .daa)
    (cpl : P .cpl)
    (scf : P .scf)
    (ccf : P .ccf)
    (halt : P .halt)
    (jpA16 : ∀ a16 : Word, P (.jpA16 a16))
    (ret : P .ret)
    (prefixCB : ∀ op2 : Byte, P (.prefixCB op2))
    (callA16 : ∀ a16 : Word, P (.callA16 a16))
    (undefD3 : P .undefD3)
    (reti : P .reti)
    (undefDB : P .undefDB)
    (undefDD : P .undefDD)
    (ldhAtA8A : ∀ a8 : Byte, P (.ldhAtA8A a8))
    (ldAtCA : P .ldAtCA)
    (undefE3 : P .undefE3)
    (undefE4 : P .undefE4)
    (addSPE8 : ∀ e8 : Byte, P (.addSPE8 e8))
    (jpAtHL : P .jpAtHL)
    (ldAtA16A : ∀ a16 : Word, P (.ldAtA16A a16))
    (undefEB : P .undefEB)
    (undefEC : P .undefEC)
    (undefED : P .undefED)
    (ldhAAtA8 : ∀ a8 : Byte, P (.ldhAAtA8 a8))
    (ldAAtC : P .ldAAtC)
    (di : P .di)
    (undefF4 : P .undefF4)
    (ldHLSPE8 : ∀ e8 : Byte, P (.ldHLSPE8 e8))
    (ldSPHL : P .ldSPHL)
    (ldAAtA16 : ∀ a16 : Word, P (.ldAAtA16 a16))
    (ei : P .ei)
    (undefFC : P .undefFC)
    (undefFD : P .undefFD)
    : ∀ i : Instr, P i
  | .nop => nop
  | .ldBCD16 d16 => ldPair .bc d16
  | .ldAtBCA => storeA .bc
  | .incBC => incPair .bc
  | .incB => inc (.reg .b)
  | .decB => dec (.reg .b)
  | .ldBD8 d8 => ldImm (.reg .b) d8
  | .rlca => rlca
  | .ldAtA16SP a16 => ldAtA16SP a16
  | .addHLBC => addHL .bc
  | .ldAAtBC => loadA .bc
  | .decBC => decPair .bc
  | .incC => inc (.reg .c)
  | .decC => dec (.reg .c)
  | .ldCD8 d8 => ldImm (.reg .c) d8
  | .rrca => rrca
  | .stop pad => stop pad
  | .ldDED16 d16 => ldPair .de d16
  | .ldAtDEA => storeA .de
  | .incDE => incPair .de
  | .incD => inc (.reg .d)
  | .decD => dec (.reg .d)
  | .ldDD8 d8 => ldImm (.reg .d) d8
  | .rla => rla
  | .jrE8 e8 => jrE8 e8
  | .addHLDE => addHL .de
  | .ldAAtDE => loadA .de
  | .decDE => decPair .de
  | .incE => inc (.reg .e)
  | .decE => dec (.reg .e)
  | .ldED8 d8 => ldImm (.reg .e) d8
  | .rra => rra
  | .jrNZE8 e8 => jrCond .nz e8
  | .ldHLD16 d16 => ldPair .hl d16
  | .ldAtHLIncA => storeA .hlInc
  | .incHL => incPair .hl
  | .incH => inc (.reg .h)
  | .decH => dec (.reg .h)
  | .ldHD8 d8 => ldImm (.reg .h) d8
  | .daa => daa
  | .jrZE8 e8 => jrCond .z e8
  | .addHLHL => addHL .hl
  | .ldAAtHLInc => loadA .hlInc
  | .decHL => decPair .hl
  | .incL => inc (.reg .l)
  | .decL => dec (.reg .l)
  | .ldLD8 d8 => ldImm (.reg .l) d8
  | .cpl => cpl
  | .jrNCE8 e8 => jrCond .nc e8
  | .ldSPD16 d16 => ldPair .sp d16
  | .ldAtHLDecA => storeA .hlDec
  | .incSP => incPair .sp
  | .incAtHL => inc .atHL
  | .decAtHL => dec .atHL
  | .ldAtHLD8 d8 => ldImm .atHL d8
  | .scf => scf
  | .jrCE8 e8 => jrCond .c e8
  | .addHLSP => addHL .sp
  | .ldAAtHLDec => loadA .hlDec
  | .decSP => decPair .sp
  | .incA => inc (.reg .a)
  | .decA => dec (.reg .a)
  | .ldAD8 d8 => ldImm (.reg .a) d8
  | .ccf => ccf
  | .ldBB => ld (.reg .b) (.reg .b) (by simp)
  | .ldBC => ld (.reg .b) (.reg .c) (by simp)
  | .ldBD => ld (.reg .b) (.reg .d) (by simp)
  | .ldBE => ld (.reg .b) (.reg .e) (by simp)
  | .ldBH => ld (.reg .b) (.reg .h) (by simp)
  | .ldBL => ld (.reg .b) (.reg .l) (by simp)
  | .ldBAtHL => ld (.reg .b) .atHL (by simp)
  | .ldBA => ld (.reg .b) (.reg .a) (by simp)
  | .ldCB => ld (.reg .c) (.reg .b) (by simp)
  | .ldCC => ld (.reg .c) (.reg .c) (by simp)
  | .ldCD => ld (.reg .c) (.reg .d) (by simp)
  | .ldCE => ld (.reg .c) (.reg .e) (by simp)
  | .ldCH => ld (.reg .c) (.reg .h) (by simp)
  | .ldCL => ld (.reg .c) (.reg .l) (by simp)
  | .ldCAtHL => ld (.reg .c) .atHL (by simp)
  | .ldCA => ld (.reg .c) (.reg .a) (by simp)
  | .ldDB => ld (.reg .d) (.reg .b) (by simp)
  | .ldDC => ld (.reg .d) (.reg .c) (by simp)
  | .ldDD => ld (.reg .d) (.reg .d) (by simp)
  | .ldDE => ld (.reg .d) (.reg .e) (by simp)
  | .ldDH => ld (.reg .d) (.reg .h) (by simp)
  | .ldDL => ld (.reg .d) (.reg .l) (by simp)
  | .ldDAtHL => ld (.reg .d) .atHL (by simp)
  | .ldDA => ld (.reg .d) (.reg .a) (by simp)
  | .ldEB => ld (.reg .e) (.reg .b) (by simp)
  | .ldEC => ld (.reg .e) (.reg .c) (by simp)
  | .ldED => ld (.reg .e) (.reg .d) (by simp)
  | .ldEE => ld (.reg .e) (.reg .e) (by simp)
  | .ldEH => ld (.reg .e) (.reg .h) (by simp)
  | .ldEL => ld (.reg .e) (.reg .l) (by simp)
  | .ldEAtHL => ld (.reg .e) .atHL (by simp)
  | .ldEA => ld (.reg .e) (.reg .a) (by simp)
  | .ldHB => ld (.reg .h) (.reg .b) (by simp)
  | .ldHC => ld (.reg .h) (.reg .c) (by simp)
  | .ldHD => ld (.reg .h) (.reg .d) (by simp)
  | .ldHE => ld (.reg .h) (.reg .e) (by simp)
  | .ldHH => ld (.reg .h) (.reg .h) (by simp)
  | .ldHL => ld (.reg .h) (.reg .l) (by simp)
  | .ldHAtHL => ld (.reg .h) .atHL (by simp)
  | .ldHA => ld (.reg .h) (.reg .a) (by simp)
  | .ldLB => ld (.reg .l) (.reg .b) (by simp)
  | .ldLC => ld (.reg .l) (.reg .c) (by simp)
  | .ldLD => ld (.reg .l) (.reg .d) (by simp)
  | .ldLE => ld (.reg .l) (.reg .e) (by simp)
  | .ldLH => ld (.reg .l) (.reg .h) (by simp)
  | .ldLL => ld (.reg .l) (.reg .l) (by simp)
  | .ldLAtHL => ld (.reg .l) .atHL (by simp)
  | .ldLA => ld (.reg .l) (.reg .a) (by simp)
  | .ldAtHLB => ld .atHL (.reg .b) (by simp)
  | .ldAtHLC => ld .atHL (.reg .c) (by simp)
  | .ldAtHLD => ld .atHL (.reg .d) (by simp)
  | .ldAtHLE => ld .atHL (.reg .e) (by simp)
  | .ldAtHLH => ld .atHL (.reg .h) (by simp)
  | .ldAtHLL => ld .atHL (.reg .l) (by simp)
  | .halt => halt
  | .ldAtHLA => ld .atHL (.reg .a) (by simp)
  | .ldAB => ld (.reg .a) (.reg .b) (by simp)
  | .ldAC => ld (.reg .a) (.reg .c) (by simp)
  | .ldAD => ld (.reg .a) (.reg .d) (by simp)
  | .ldAE => ld (.reg .a) (.reg .e) (by simp)
  | .ldAH => ld (.reg .a) (.reg .h) (by simp)
  | .ldAL => ld (.reg .a) (.reg .l) (by simp)
  | .ldAAtHL => ld (.reg .a) .atHL (by simp)
  | .ldAA => ld (.reg .a) (.reg .a) (by simp)
  | .addAB => alu .add (.reg .b)
  | .addAC => alu .add (.reg .c)
  | .addAD => alu .add (.reg .d)
  | .addAE => alu .add (.reg .e)
  | .addAH => alu .add (.reg .h)
  | .addAL => alu .add (.reg .l)
  | .addAAtHL => alu .add .atHL
  | .addAA => alu .add (.reg .a)
  | .adcAB => alu .adc (.reg .b)
  | .adcAC => alu .adc (.reg .c)
  | .adcAD => alu .adc (.reg .d)
  | .adcAE => alu .adc (.reg .e)
  | .adcAH => alu .adc (.reg .h)
  | .adcAL => alu .adc (.reg .l)
  | .adcAAtHL => alu .adc .atHL
  | .adcAA => alu .adc (.reg .a)
  | .subB => alu .sub (.reg .b)
  | .subC => alu .sub (.reg .c)
  | .subD => alu .sub (.reg .d)
  | .subE => alu .sub (.reg .e)
  | .subH => alu .sub (.reg .h)
  | .subL => alu .sub (.reg .l)
  | .subAtHL => alu .sub .atHL
  | .subA => alu .sub (.reg .a)
  | .sbcAB => alu .sbc (.reg .b)
  | .sbcAC => alu .sbc (.reg .c)
  | .sbcAD => alu .sbc (.reg .d)
  | .sbcAE => alu .sbc (.reg .e)
  | .sbcAH => alu .sbc (.reg .h)
  | .sbcAL => alu .sbc (.reg .l)
  | .sbcAAtHL => alu .sbc .atHL
  | .sbcAA => alu .sbc (.reg .a)
  | .andB => alu .and (.reg .b)
  | .andC => alu .and (.reg .c)
  | .andD => alu .and (.reg .d)
  | .andE => alu .and (.reg .e)
  | .andH => alu .and (.reg .h)
  | .andL => alu .and (.reg .l)
  | .andAtHL => alu .and .atHL
  | .andA => alu .and (.reg .a)
  | .xorB => alu .xor (.reg .b)
  | .xorC => alu .xor (.reg .c)
  | .xorD => alu .xor (.reg .d)
  | .xorE => alu .xor (.reg .e)
  | .xorH => alu .xor (.reg .h)
  | .xorL => alu .xor (.reg .l)
  | .xorAtHL => alu .xor .atHL
  | .xorA => alu .xor (.reg .a)
  | .orB => alu .or (.reg .b)
  | .orC => alu .or (.reg .c)
  | .orD => alu .or (.reg .d)
  | .orE => alu .or (.reg .e)
  | .orH => alu .or (.reg .h)
  | .orL => alu .or (.reg .l)
  | .orAtHL => alu .or .atHL
  | .orA => alu .or (.reg .a)
  | .cpB => alu .cp (.reg .b)
  | .cpC => alu .cp (.reg .c)
  | .cpD => alu .cp (.reg .d)
  | .cpE => alu .cp (.reg .e)
  | .cpH => alu .cp (.reg .h)
  | .cpL => alu .cp (.reg .l)
  | .cpAtHL => alu .cp .atHL
  | .cpA => alu .cp (.reg .a)
  | .retNZ => retCond .nz
  | .popBC => pop .bc
  | .jpNZA16 a16 => jpCond .nz a16
  | .jpA16 a16 => jpA16 a16
  | .callNZA16 a16 => callCond .nz a16
  | .pushBC => push .bc
  | .addAD8 d8 => aluImm .add d8
  | .rst00 => rst 0
  | .retZ => retCond .z
  | .ret => ret
  | .jpZA16 a16 => jpCond .z a16
  | .prefixCB op2 => prefixCB op2
  | .callZA16 a16 => callCond .z a16
  | .callA16 a16 => callA16 a16
  | .adcAD8 d8 => aluImm .adc d8
  | .rst08 => rst 1
  | .retNC => retCond .nc
  | .popDE => pop .de
  | .jpNCA16 a16 => jpCond .nc a16
  | .undefD3 => undefD3
  | .callNCA16 a16 => callCond .nc a16
  | .pushDE => push .de
  | .subD8 d8 => aluImm .sub d8
  | .rst10 => rst 2
  | .retC => retCond .c
  | .reti => reti
  | .jpCA16 a16 => jpCond .c a16
  | .undefDB => undefDB
  | .callCA16 a16 => callCond .c a16
  | .undefDD => undefDD
  | .sbcAD8 d8 => aluImm .sbc d8
  | .rst18 => rst 3
  | .ldhAtA8A a8 => ldhAtA8A a8
  | .popHL => pop .hl
  | .ldAtCA => ldAtCA
  | .undefE3 => undefE3
  | .undefE4 => undefE4
  | .pushHL => push .hl
  | .andD8 d8 => aluImm .and d8
  | .rst20 => rst 4
  | .addSPE8 e8 => addSPE8 e8
  | .jpAtHL => jpAtHL
  | .ldAtA16A a16 => ldAtA16A a16
  | .undefEB => undefEB
  | .undefEC => undefEC
  | .undefED => undefED
  | .xorD8 d8 => aluImm .xor d8
  | .rst28 => rst 5
  | .ldhAAtA8 a8 => ldhAAtA8 a8
  | .popAF => pop .af
  | .ldAAtC => ldAAtC
  | .di => di
  | .undefF4 => undefF4
  | .pushAF => push .af
  | .orD8 d8 => aluImm .or d8
  | .rst30 => rst 6
  | .ldHLSPE8 e8 => ldHLSPE8 e8
  | .ldSPHL => ldSPHL
  | .ldAAtA16 a16 => ldAAtA16 a16
  | .ei => ei
  | .undefFC => undefFC
  | .undefFD => undefFD
  | .cpD8 d8 => aluImm .cp d8
  | .rst38 => rst 7
  | .rlcB => rot .rlc (.reg .b)
  | .rlcC => rot .rlc (.reg .c)
  | .rlcD => rot .rlc (.reg .d)
  | .rlcE => rot .rlc (.reg .e)
  | .rlcH => rot .rlc (.reg .h)
  | .rlcL => rot .rlc (.reg .l)
  | .rlcAtHL => rot .rlc .atHL
  | .rlcA => rot .rlc (.reg .a)
  | .rrcB => rot .rrc (.reg .b)
  | .rrcC => rot .rrc (.reg .c)
  | .rrcD => rot .rrc (.reg .d)
  | .rrcE => rot .rrc (.reg .e)
  | .rrcH => rot .rrc (.reg .h)
  | .rrcL => rot .rrc (.reg .l)
  | .rrcAtHL => rot .rrc .atHL
  | .rrcA => rot .rrc (.reg .a)
  | .rlB => rot .rl (.reg .b)
  | .rlC => rot .rl (.reg .c)
  | .rlD => rot .rl (.reg .d)
  | .rlE => rot .rl (.reg .e)
  | .rlH => rot .rl (.reg .h)
  | .rlL => rot .rl (.reg .l)
  | .rlAtHL => rot .rl .atHL
  | .rlA => rot .rl (.reg .a)
  | .rrB => rot .rr (.reg .b)
  | .rrC => rot .rr (.reg .c)
  | .rrD => rot .rr (.reg .d)
  | .rrE => rot .rr (.reg .e)
  | .rrH => rot .rr (.reg .h)
  | .rrL => rot .rr (.reg .l)
  | .rrAtHL => rot .rr .atHL
  | .rrA => rot .rr (.reg .a)
  | .slaB => rot .sla (.reg .b)
  | .slaC => rot .sla (.reg .c)
  | .slaD => rot .sla (.reg .d)
  | .slaE => rot .sla (.reg .e)
  | .slaH => rot .sla (.reg .h)
  | .slaL => rot .sla (.reg .l)
  | .slaAtHL => rot .sla .atHL
  | .slaA => rot .sla (.reg .a)
  | .sraB => rot .sra (.reg .b)
  | .sraC => rot .sra (.reg .c)
  | .sraD => rot .sra (.reg .d)
  | .sraE => rot .sra (.reg .e)
  | .sraH => rot .sra (.reg .h)
  | .sraL => rot .sra (.reg .l)
  | .sraAtHL => rot .sra .atHL
  | .sraA => rot .sra (.reg .a)
  | .swapB => rot .swap (.reg .b)
  | .swapC => rot .swap (.reg .c)
  | .swapD => rot .swap (.reg .d)
  | .swapE => rot .swap (.reg .e)
  | .swapH => rot .swap (.reg .h)
  | .swapL => rot .swap (.reg .l)
  | .swapAtHL => rot .swap .atHL
  | .swapA => rot .swap (.reg .a)
  | .srlB => rot .srl (.reg .b)
  | .srlC => rot .srl (.reg .c)
  | .srlD => rot .srl (.reg .d)
  | .srlE => rot .srl (.reg .e)
  | .srlH => rot .srl (.reg .h)
  | .srlL => rot .srl (.reg .l)
  | .srlAtHL => rot .srl .atHL
  | .srlA => rot .srl (.reg .a)
  | .bit0B => bit 0 (.reg .b)
  | .bit0C => bit 0 (.reg .c)
  | .bit0D => bit 0 (.reg .d)
  | .bit0E => bit 0 (.reg .e)
  | .bit0H => bit 0 (.reg .h)
  | .bit0L => bit 0 (.reg .l)
  | .bit0AtHL => bit 0 .atHL
  | .bit0A => bit 0 (.reg .a)
  | .bit1B => bit 1 (.reg .b)
  | .bit1C => bit 1 (.reg .c)
  | .bit1D => bit 1 (.reg .d)
  | .bit1E => bit 1 (.reg .e)
  | .bit1H => bit 1 (.reg .h)
  | .bit1L => bit 1 (.reg .l)
  | .bit1AtHL => bit 1 .atHL
  | .bit1A => bit 1 (.reg .a)
  | .bit2B => bit 2 (.reg .b)
  | .bit2C => bit 2 (.reg .c)
  | .bit2D => bit 2 (.reg .d)
  | .bit2E => bit 2 (.reg .e)
  | .bit2H => bit 2 (.reg .h)
  | .bit2L => bit 2 (.reg .l)
  | .bit2AtHL => bit 2 .atHL
  | .bit2A => bit 2 (.reg .a)
  | .bit3B => bit 3 (.reg .b)
  | .bit3C => bit 3 (.reg .c)
  | .bit3D => bit 3 (.reg .d)
  | .bit3E => bit 3 (.reg .e)
  | .bit3H => bit 3 (.reg .h)
  | .bit3L => bit 3 (.reg .l)
  | .bit3AtHL => bit 3 .atHL
  | .bit3A => bit 3 (.reg .a)
  | .bit4B => bit 4 (.reg .b)
  | .bit4C => bit 4 (.reg .c)
  | .bit4D => bit 4 (.reg .d)
  | .bit4E => bit 4 (.reg .e)
  | .bit4H => bit 4 (.reg .h)
  | .bit4L => bit 4 (.reg .l)
  | .bit4AtHL => bit 4 .atHL
  | .bit4A => bit 4 (.reg .a)
  | .bit5B => bit 5 (.reg .b)
  | .bit5C => bit 5 (.reg .c)
  | .bit5D => bit 5 (.reg .d)
  | .bit5E => bit 5 (.reg .e)
  | .bit5H => bit 5 (.reg .h)
  | .bit5L => bit 5 (.reg .l)
  | .bit5AtHL => bit 5 .atHL
  | .bit5A => bit 5 (.reg .a)
  | .bit6B => bit 6 (.reg .b)
  | .bit6C => bit 6 (.reg .c)
  | .bit6D => bit 6 (.reg .d)
  | .bit6E => bit 6 (.reg .e)
  | .bit6H => bit 6 (.reg .h)
  | .bit6L => bit 6 (.reg .l)
  | .bit6AtHL => bit 6 .atHL
  | .bit6A => bit 6 (.reg .a)
  | .bit7B => bit 7 (.reg .b)
  | .bit7C => bit 7 (.reg .c)
  | .bit7D => bit 7 (.reg .d)
  | .bit7E => bit 7 (.reg .e)
  | .bit7H => bit 7 (.reg .h)
  | .bit7L => bit 7 (.reg .l)
  | .bit7AtHL => bit 7 .atHL
  | .bit7A => bit 7 (.reg .a)
  | .res0B => res 0 (.reg .b)
  | .res0C => res 0 (.reg .c)
  | .res0D => res 0 (.reg .d)
  | .res0E => res 0 (.reg .e)
  | .res0H => res 0 (.reg .h)
  | .res0L => res 0 (.reg .l)
  | .res0AtHL => res 0 .atHL
  | .res0A => res 0 (.reg .a)
  | .res1B => res 1 (.reg .b)
  | .res1C => res 1 (.reg .c)
  | .res1D => res 1 (.reg .d)
  | .res1E => res 1 (.reg .e)
  | .res1H => res 1 (.reg .h)
  | .res1L => res 1 (.reg .l)
  | .res1AtHL => res 1 .atHL
  | .res1A => res 1 (.reg .a)
  | .res2B => res 2 (.reg .b)
  | .res2C => res 2 (.reg .c)
  | .res2D => res 2 (.reg .d)
  | .res2E => res 2 (.reg .e)
  | .res2H => res 2 (.reg .h)
  | .res2L => res 2 (.reg .l)
  | .res2AtHL => res 2 .atHL
  | .res2A => res 2 (.reg .a)
  | .res3B => res 3 (.reg .b)
  | .res3C => res 3 (.reg .c)
  | .res3D => res 3 (.reg .d)
  | .res3E => res 3 (.reg .e)
  | .res3H => res 3 (.reg .h)
  | .res3L => res 3 (.reg .l)
  | .res3AtHL => res 3 .atHL
  | .res3A => res 3 (.reg .a)
  | .res4B => res 4 (.reg .b)
  | .res4C => res 4 (.reg .c)
  | .res4D => res 4 (.reg .d)
  | .res4E => res 4 (.reg .e)
  | .res4H => res 4 (.reg .h)
  | .res4L => res 4 (.reg .l)
  | .res4AtHL => res 4 .atHL
  | .res4A => res 4 (.reg .a)
  | .res5B => res 5 (.reg .b)
  | .res5C => res 5 (.reg .c)
  | .res5D => res 5 (.reg .d)
  | .res5E => res 5 (.reg .e)
  | .res5H => res 5 (.reg .h)
  | .res5L => res 5 (.reg .l)
  | .res5AtHL => res 5 .atHL
  | .res5A => res 5 (.reg .a)
  | .res6B => res 6 (.reg .b)
  | .res6C => res 6 (.reg .c)
  | .res6D => res 6 (.reg .d)
  | .res6E => res 6 (.reg .e)
  | .res6H => res 6 (.reg .h)
  | .res6L => res 6 (.reg .l)
  | .res6AtHL => res 6 .atHL
  | .res6A => res 6 (.reg .a)
  | .res7B => res 7 (.reg .b)
  | .res7C => res 7 (.reg .c)
  | .res7D => res 7 (.reg .d)
  | .res7E => res 7 (.reg .e)
  | .res7H => res 7 (.reg .h)
  | .res7L => res 7 (.reg .l)
  | .res7AtHL => res 7 .atHL
  | .res7A => res 7 (.reg .a)
  | .set0B => set 0 (.reg .b)
  | .set0C => set 0 (.reg .c)
  | .set0D => set 0 (.reg .d)
  | .set0E => set 0 (.reg .e)
  | .set0H => set 0 (.reg .h)
  | .set0L => set 0 (.reg .l)
  | .set0AtHL => set 0 .atHL
  | .set0A => set 0 (.reg .a)
  | .set1B => set 1 (.reg .b)
  | .set1C => set 1 (.reg .c)
  | .set1D => set 1 (.reg .d)
  | .set1E => set 1 (.reg .e)
  | .set1H => set 1 (.reg .h)
  | .set1L => set 1 (.reg .l)
  | .set1AtHL => set 1 .atHL
  | .set1A => set 1 (.reg .a)
  | .set2B => set 2 (.reg .b)
  | .set2C => set 2 (.reg .c)
  | .set2D => set 2 (.reg .d)
  | .set2E => set 2 (.reg .e)
  | .set2H => set 2 (.reg .h)
  | .set2L => set 2 (.reg .l)
  | .set2AtHL => set 2 .atHL
  | .set2A => set 2 (.reg .a)
  | .set3B => set 3 (.reg .b)
  | .set3C => set 3 (.reg .c)
  | .set3D => set 3 (.reg .d)
  | .set3E => set 3 (.reg .e)
  | .set3H => set 3 (.reg .h)
  | .set3L => set 3 (.reg .l)
  | .set3AtHL => set 3 .atHL
  | .set3A => set 3 (.reg .a)
  | .set4B => set 4 (.reg .b)
  | .set4C => set 4 (.reg .c)
  | .set4D => set 4 (.reg .d)
  | .set4E => set 4 (.reg .e)
  | .set4H => set 4 (.reg .h)
  | .set4L => set 4 (.reg .l)
  | .set4AtHL => set 4 .atHL
  | .set4A => set 4 (.reg .a)
  | .set5B => set 5 (.reg .b)
  | .set5C => set 5 (.reg .c)
  | .set5D => set 5 (.reg .d)
  | .set5E => set 5 (.reg .e)
  | .set5H => set 5 (.reg .h)
  | .set5L => set 5 (.reg .l)
  | .set5AtHL => set 5 .atHL
  | .set5A => set 5 (.reg .a)
  | .set6B => set 6 (.reg .b)
  | .set6C => set 6 (.reg .c)
  | .set6D => set 6 (.reg .d)
  | .set6E => set 6 (.reg .e)
  | .set6H => set 6 (.reg .h)
  | .set6L => set 6 (.reg .l)
  | .set6AtHL => set 6 .atHL
  | .set6A => set 6 (.reg .a)
  | .set7B => set 7 (.reg .b)
  | .set7C => set 7 (.reg .c)
  | .set7D => set 7 (.reg .d)
  | .set7E => set 7 (.reg .e)
  | .set7H => set 7 (.reg .h)
  | .set7L => set 7 (.reg .l)
  | .set7AtHL => set 7 .atHL
  | .set7A => set 7 (.reg .a)

end Sys2Proof
end

