-- ==== Sys2Proof/Laws/Frame.lean ====
section
/-! SUPPORT. The frame that the meaning of every instruction has: it leaves everything outside the CPU, and it keeps memory
in canonical form. -/

namespace Sys2Proof.Machine

/-- Placing bytes keeps memory canonical. -/
theorem State.wf_storeBytes {s : State} (addr : Word) (bytes : List Byte) (h : Memory.wf s.mem = true) :
    Memory.wf (s.storeBytes addr bytes).mem = true := by
  induction bytes generalizing s addr with
  | nil => exact h
  | cons v rest ih => exact ih _ (State.wf_write8 _ _ h)

/-- Loading an image keeps memory canonical. -/
theorem Memory.wf_loadImageFrom {m : List Host.Cell} (i : Nat) (image : List Byte) (h : Memory.wf m = true) :
    Memory.wf (loadImageFrom m i image) = true := by
  induction image generalizing m i with
  | nil => exact h
  | cons v rest ih =>
    apply ih
    split
    · exact Memory.wf_write _ _ h
    · exact h

theorem Memory.wf_launchMemory (cartridge boot : List Byte) : Memory.wf (launchMemory cartridge boot) = true :=
  Memory.wf_loadImageFrom 0 boot (Memory.wf_loadImageFrom 0 cartridge Memory.wf_nil)

/-- A result leaves everything outside the CPU and keeps memory canonical. -/
structure KeepsMachine (s : State) (r : Result) : Prop where
  outside : ∀ t, r = .next t → agreeOutsideCpu s t
  memory : ∀ t, r = .next t → Memory.wf s.mem = true → Memory.wf t.mem = true

/-- `agreeOutsideCpu` as one equation, which rfl closes field by field. -/
abbrev SameOutside (s t : State) : Prop :=
  (t.tStep, t.mStep, t.tTotal, t.mTotal, t.internalClock, t.prevHorizontalClock, t.prevVerticalClock, t.displayOn, t.fb,
    t.bgBases, t.running, t.hostInput, t.cyclesOut, t.frameEvent) =
  (s.tStep, s.mStep, s.tTotal, s.mTotal, s.internalClock, s.prevHorizontalClock, s.prevVerticalClock, s.displayOn, s.fb,
    s.bgBases, s.running, s.hostInput, s.cyclesOut, s.frameEvent)

theorem agreeOutsideCpu_of_same {s t : State} (h : SameOutside s t) : agreeOutsideCpu s t := by
  simpa only [Prod.mk.injEq] using h

namespace KeepsMachine

variable {s t : State}

/-- A result that stores nothing; the frame is found field by field. -/
theorem of_mem (hm : t.mem = s.mem)
    (h : SameOutside s t) :
    KeepsMachine s (.next t) :=
  ⟨by rintro _ ⟨⟩; exact agreeOutsideCpu_of_same h, by rintro _ ⟨⟩ hw; rw [hm]; exact hw⟩

/-- A result that stores one byte. -/
theorem of_write8 (addr : Word) (v : Byte) (hm : t.mem = (s.write8 addr v).mem)
    (h : SameOutside s t) :
    KeepsMachine s (.next t) :=
  ⟨by rintro _ ⟨⟩; exact agreeOutsideCpu_of_same h, by rintro _ ⟨⟩ hw; rw [hm]; exact State.wf_write8 addr v hw⟩

/-- A result that stores one word. -/
theorem of_write16 (addr v : Word) (hm : t.mem = (s.write16 addr v).mem)
    (h : SameOutside s t) :
    KeepsMachine s (.next t) :=
  ⟨by rintro _ ⟨⟩; exact agreeOutsideCpu_of_same h, by rintro _ ⟨⟩ hw; rw [hm]; exact State.wf_write16 addr v hw⟩

theorem ite {c : Prop} [Decidable c] {r r' : Result} (h : KeepsMachine s r) (h' : KeepsMachine s r') :
    KeepsMachine s (if c then r else r') := by split <;> assumption

variable (s)

theorem rotateOperand (op : RotOp) (o : Operand8) : KeepsMachine s (rotateOperand op o s) := by
  rcases o with r | _
  · cases r <;> exact of_mem rfl rfl
  · exact of_write8 _ _ rfl rfl

theorem testBit (n : Fin 8) (o : Operand8) : KeepsMachine s (testBit n o s) := of_mem rfl rfl

theorem resetBit (n : Fin 8) (o : Operand8) : KeepsMachine s (resetBit n o s) := by
  rcases o with r | _
  · cases r <;> exact of_mem rfl rfl
  · exact of_write8 _ _ rfl rfl

theorem setBit (n : Fin 8) (o : Operand8) : KeepsMachine s (setBit n o s) := by
  rcases o with r | _
  · cases r <;> exact of_mem rfl rfl
  · exact of_write8 _ _ rfl rfl

theorem extendedTable (op2 : Byte) : KeepsMachine s (extendedTable op2 s) := by
  unfold Machine.extendedTable
  split
  · exact rotateOperand s _ _
  · exact testBit s _ _
  · exact resetBit s _ _
  · exact setBit s _ _

theorem accumulate (op : AluOp) (x : Byte) (len : Word) (n : Nat) : KeepsMachine s (accumulate op x len n s) := by
  cases op <;> exact of_mem rfl rfl

theorem loadOperand (dst src : Operand8) : KeepsMachine s (loadOperand dst src s) := by
  rcases dst with r | _
  · cases r <;> exact of_mem rfl rfl
  · exact of_write8 _ _ rfl rfl

theorem loadImmediate (o : Operand8) (d8 : Byte) : KeepsMachine s (loadImmediate o d8 s) := by
  rcases o with r | _
  · cases r <;> exact of_mem rfl rfl
  · exact of_write8 _ _ rfl rfl

theorem incOperand (o : Operand8) : KeepsMachine s (incOperand o s) := by
  rcases o with r | _
  · cases r <;> exact of_mem rfl rfl
  · exact of_write8 _ _ rfl rfl

theorem decOperand (o : Operand8) : KeepsMachine s (decOperand o s) := by
  rcases o with r | _
  · cases r <;> exact of_mem rfl rfl
  · exact of_write8 _ _ rfl rfl

end KeepsMachine

/-- Every instruction leaves the clock counters, the video timing engine, the pixel buffer, the host's side and the outputs,
and keeps memory canonical. -/
theorem exec_keepsMachine (s : State) (i : Instr) : KeepsMachine s (exec i s) := by
  induction i using Instr.row_cases with
  | ld dst src h => rw [exec_rowLd s dst src h]; exact .loadOperand s dst src
  | ldImm o d8 => rw [exec_rowLdImm]; exact .loadImmediate s o d8
  | storeA ia => rw [exec_rowStoreA]; cases ia <;> exact .of_write8 _ _ rfl (by simp [State.indirectUpdate])
  | loadA ia => rw [exec_rowLoadA]; cases ia <;> exact .of_mem rfl rfl
  | inc o => rw [exec_rowInc]; exact .incOperand s o
  | dec o => rw [exec_rowDec]; exact .decOperand s o
  | alu op o => rw [exec_rowAlu]; exact .accumulate s op _ _ _
  | aluImm op d8 => rw [exec_rowAluImm]; exact .accumulate s op _ _ _
  | ldPair p d16 => rw [exec_rowLdPair]; cases p <;> exact .of_mem rfl rfl
  | addHL p => rw [exec_rowAddHL]; exact .of_mem rfl rfl
  | incPair p => rw [exec_rowIncPair]; cases p <;> exact .of_mem rfl rfl
  | decPair p => rw [exec_rowDecPair]; cases p <;> exact .of_mem rfl rfl
  | push p => rw [exec_rowPush]; exact .of_write16 _ _ rfl (by simp)
  | pop p => rw [exec_rowPop]; cases p <;> exact .of_mem (by simp [State.setStackPair]) (by simp [State.setStackPair])
  | jrCond cc e8 => rw [exec_rowJrCond]; exact .ite (.of_mem rfl rfl) (.of_mem rfl rfl)
  | jpCond cc a16 => rw [exec_rowJpCond]; exact .ite (.of_mem rfl rfl) (.of_mem rfl rfl)
  | callCond cc a16 => rw [exec_rowCallCond]; exact .ite (.of_write16 _ _ rfl (by simp)) (.of_mem rfl rfl)
  | retCond cc => rw [exec_rowRetCond]; exact .ite (.of_mem rfl rfl) (.of_mem rfl rfl)
  | rst y => rw [exec_rowRst]; exact .of_write16 _ _ rfl (by simp)
  | rot op o => rw [exec_rowRot]; exact .rotateOperand s op o
  | bit n o => rw [exec_rowBit]; exact .testBit s n o
  | res n o => rw [exec_rowRes]; exact .resetBit s n o
  | set n o => rw [exec_rowSet]; exact .setBit s n o
  | prefixCB op2 => exact .extendedTable s op2
  | ldAtA16SP a16 => exact .of_write16 _ _ rfl (by simp)
  | callA16 a16 => exact .of_write16 _ _ rfl (by simp)
  | ldhAtA8A a8 => exact .of_write8 _ _ rfl rfl
  | ldAtCA => exact .of_write8 _ _ rfl rfl
  | ldAtA16A a16 => exact .of_write8 _ _ rfl rfl
  | _ => exact .of_mem rfl rfl

end Sys2Proof.Machine
end

