-- ==== Sys2Proof/Laws/PerInstr.lean ====
section
/-! SUPPORT. Facts about every instruction as syntax, one lemma per constructor of Instr. -/

/-- "An instruction is 1, 2 or 3 bytes" (R90). -/
def Sys2Proof.Laws.EncodedLength.Statement (i : Sys2Proof.Instr) : Prop :=
  1 ≤ (Sys2Proof.encode i).length ∧ (Sys2Proof.encode i).length ≤ 3

namespace Sys2Proof.Laws

theorem EncodedLength.nop : EncodedLength.Statement .nop :=
  ⟨Nat.le_add_left 1 0, Nat.le_add_left 1 2⟩
theorem EncodedLength.ldBCD16 (d16 : Word) : EncodedLength.Statement (.ldBCD16 d16) :=
  ⟨Nat.le_add_left 1 2, Nat.le_add_left 3 0⟩
theorem EncodedLength.ldAtBCA : EncodedLength.Statement .ldAtBCA :=
  ⟨Nat.le_add_left 1 0, Nat.le_add_left 1 2⟩
theorem EncodedLength.incBC : EncodedLength.Statement .incBC :=
  ⟨Nat.le_add_left 1 0, Nat.le_add_left 1 2⟩
theorem EncodedLength.incB : EncodedLength.Statement .incB :=
  ⟨Nat.le_add_left 1 0, Nat.le_add_left 1 2⟩
theorem EncodedLength.decB : EncodedLength.Statement .decB :=
  ⟨Nat.le_add_left 1 0, Nat.le_add_left 1 2⟩
theorem EncodedLength.ldBD8 (d8 : Byte) : EncodedLength.Statement (.ldBD8 d8) :=
  ⟨Nat.le_add_left 1 1, Nat.le_add_left 2 1⟩
theorem EncodedLength.rlca : EncodedLength.Statement .rlca :=
  ⟨Nat.le_add_left 1 0, Nat.le_add_left 1 2⟩
theorem EncodedLength.ldAtA16SP (a16 : Word) : EncodedLength.Statement (.ldAtA16SP a16) :=
  ⟨Nat.le_add_left 1 2, Nat.le_add_left 3 0⟩
theorem EncodedLength.addHLBC : EncodedLength.Statement .addHLBC :=
  ⟨Nat.le_add_left 1 0, Nat.le_add_left 1 2⟩
theorem EncodedLength.ldAAtBC : EncodedLength.Statement .ldAAtBC :=
  ⟨Nat.le_add_left 1 0, Nat.le_add_left 1 2⟩
theorem EncodedLength.decBC : EncodedLength.Statement .decBC :=
  ⟨Nat.le_add_left 1 0, Nat.le_add_left 1 2⟩
theorem EncodedLength.incC : EncodedLength.Statement .incC :=
  ⟨Nat.le_add_left 1 0, Nat.le_add_left 1 2⟩
theorem EncodedLength.decC : EncodedLength.Statement .decC :=
  ⟨Nat.le_add_left 1 0, Nat.le_add_left 1 2⟩
theorem EncodedLength.ldCD8 (d8 : Byte) : EncodedLength.Statement (.ldCD8 d8) :=
  ⟨Nat.le_add_left 1 1, Nat.le_add_left 2 1⟩
theorem EncodedLength.rrca : EncodedLength.Statement .rrca :=
  ⟨Nat.le_add_left 1 0, Nat.le_add_left 1 2⟩
theorem EncodedLength.stop (pad : Byte) : EncodedLength.Statement (.stop pad) :=
  ⟨Nat.le_add_left 1 1, Nat.le_add_left 2 1⟩
theorem EncodedLength.ldDED16 (d16 : Word) : EncodedLength.Statement (.ldDED16 d16) :=
  ⟨Nat.le_add_left 1 2, Nat.le_add_left 3 0⟩
theorem EncodedLength.ldAtDEA : EncodedLength.Statement .ldAtDEA :=
  ⟨Nat.le_add_left 1 0, Nat.le_add_left 1 2⟩
theorem EncodedLength.incDE : EncodedLength.Statement .incDE :=
  ⟨Nat.le_add_left 1 0, Nat.le_add_left 1 2⟩
theorem EncodedLength.incD : EncodedLength.Statement .incD :=
  ⟨Nat.le_add_left 1 0, Nat.le_add_left 1 2⟩
theorem EncodedLength.decD : EncodedLength.Statement .decD :=
  ⟨Nat.le_add_left 1 0, Nat.le_add_left 1 2⟩
theorem EncodedLength.ldDD8 (d8 : Byte) : EncodedLength.Statement (.ldDD8 d8) :=
  ⟨Nat.le_add_left 1 1, Nat.le_add_left 2 1⟩
theorem EncodedLength.rla : EncodedLength.Statement .rla :=
  ⟨Nat.le_add_left 1 0, Nat.le_add_left 1 2⟩
theorem EncodedLength.jrE8 (e8 : Byte) : EncodedLength.Statement (.jrE8 e8) :=
  ⟨Nat.le_add_left 1 1, Nat.le_add_left 2 1⟩
theorem EncodedLength.addHLDE : EncodedLength.Statement .addHLDE :=
  ⟨Nat.le_add_left 1 0, Nat.le_add_left 1 2⟩
theorem EncodedLength.ldAAtDE : EncodedLength.Statement .ldAAtDE :=
  ⟨Nat.le_add_left 1 0, Nat.le_add_left 1 2⟩
theorem EncodedLength.decDE : EncodedLength.Statement .decDE :=
  ⟨Nat.le_add_left 1 0, Nat.le_add_left 1 2⟩
theorem EncodedLength.incE : EncodedLength.Statement .incE :=
  ⟨Nat.le_add_left 1 0, Nat.le_add_left 1 2⟩
theorem EncodedLength.decE : EncodedLength.Statement .decE :=
  ⟨Nat.le_add_left 1 0, Nat.le_add_left 1 2⟩
theorem EncodedLength.ldED8 (d8 : Byte) : EncodedLength.Statement (.ldED8 d8) :=
  ⟨Nat.le_add_left 1 1, Nat.le_add_left 2 1⟩
theorem EncodedLength.rra : EncodedLength.Statement .rra :=
  ⟨Nat.le_add_left 1 0, Nat.le_add_left 1 2⟩
theorem EncodedLength.jrNZE8 (e8 : Byte) : EncodedLength.Statement (.jrNZE8 e8) :=
  ⟨Nat.le_add_left 1 1, Nat.le_add_left 2 1⟩
theorem EncodedLength.ldHLD16 (d16 : Word) : EncodedLength.Statement (.ldHLD16 d16) :=
  ⟨Nat.le_add_left 1 2, Nat.le_add_left 3 0⟩
theorem EncodedLength.ldAtHLIncA : EncodedLength.Statement .ldAtHLIncA :=
  ⟨Nat.le_add_left 1 0, Nat.le_add_left 1 2⟩
theorem EncodedLength.incHL : EncodedLength.Statement .incHL :=
  ⟨Nat.le_add_left 1 0, Nat.le_add_left 1 2⟩
theorem EncodedLength.incH : EncodedLength.Statement .incH :=
  ⟨Nat.le_add_left 1 0, Nat.le_add_left 1 2⟩
theorem EncodedLength.decH : EncodedLength.Statement .decH :=
  ⟨Nat.le_add_left 1 0, Nat.le_add_left 1 2⟩
theorem EncodedLength.ldHD8 (d8 : Byte) : EncodedLength.Statement (.ldHD8 d8) :=
  ⟨Nat.le_add_left 1 1, Nat.le_add_left 2 1⟩
theorem EncodedLength.daa : EncodedLength.Statement .daa :=
  ⟨Nat.le_add_left 1 0, Nat.le_add_left 1 2⟩
theorem EncodedLength.jrZE8 (e8 : Byte) : EncodedLength.Statement (.jrZE8 e8) :=
  ⟨Nat.le_add_left 1 1, Nat.le_add_left 2 1⟩
theorem EncodedLength.addHLHL : EncodedLength.Statement .addHLHL :=
  ⟨Nat.le_add_left 1 0, Nat.le_add_left 1 2⟩
theorem EncodedLength.ldAAtHLInc : EncodedLength.Statement .ldAAtHLInc :=
  ⟨Nat.le_add_left 1 0, Nat.le_add_left 1 2⟩
theorem EncodedLength.decHL : EncodedLength.Statement .decHL :=
  ⟨Nat.le_add_left 1 0, Nat.le_add_left 1 2⟩
theorem EncodedLength.incL : EncodedLength.Statement .incL :=
  ⟨Nat.le_add_left 1 0, Nat.le_add_left 1 2⟩
theorem EncodedLength.decL : EncodedLength.Statement .decL :=
  ⟨Nat.le_add_left 1 0, Nat.le_add_left 1 2⟩
theorem EncodedLength.ldLD8 (d8 : Byte) : EncodedLength.Statement (.ldLD8 d8) :=
  ⟨Nat.le_add_left 1 1, Nat.le_add_left 2 1⟩
theorem EncodedLength.cpl : EncodedLength.Statement .cpl :=
  ⟨Nat.le_add_left 1 0, Nat.le_add_left 1 2⟩
theorem EncodedLength.jrNCE8 (e8 : Byte) : EncodedLength.Statement (.jrNCE8 e8) :=
  ⟨Nat.le_add_left 1 1, Nat.le_add_left 2 1⟩
theorem EncodedLength.ldSPD16 (d16 : Word) : EncodedLength.Statement (.ldSPD16 d16) :=
  ⟨Nat.le_add_left 1 2, Nat.le_add_left 3 0⟩
theorem EncodedLength.ldAtHLDecA : EncodedLength.Statement .ldAtHLDecA :=
  ⟨Nat.le_add_left 1 0, Nat.le_add_left 1 2⟩
theorem EncodedLength.incSP : EncodedLength.Statement .incSP :=
  ⟨Nat.le_add_left 1 0, Nat.le_add_left 1 2⟩
theorem EncodedLength.incAtHL : EncodedLength.Statement .incAtHL :=
  ⟨Nat.le_add_left 1 0, Nat.le_add_left 1 2⟩
theorem EncodedLength.decAtHL : EncodedLength.Statement .decAtHL :=
  ⟨Nat.le_add_left 1 0, Nat.le_add_left 1 2⟩
theorem EncodedLength.ldAtHLD8 (d8 : Byte) : EncodedLength.Statement (.ldAtHLD8 d8) :=
  ⟨Nat.le_add_left 1 1, Nat.le_add_left 2 1⟩
theorem EncodedLength.scf : EncodedLength.Statement .scf :=
  ⟨Nat.le_add_left 1 0, Nat.le_add_left 1 2⟩
theorem EncodedLength.jrCE8 (e8 : Byte) : EncodedLength.Statement (.jrCE8 e8) :=
  ⟨Nat.le_add_left 1 1, Nat.le_add_left 2 1⟩
theorem EncodedLength.addHLSP : EncodedLength.Statement .addHLSP :=
  ⟨Nat.le_add_left 1 0, Nat.le_add_left 1 2⟩
theorem EncodedLength.ldAAtHLDec : EncodedLength.Statement .ldAAtHLDec :=
  ⟨Nat.le_add_left 1 0, Nat.le_add_left 1 2⟩
theorem EncodedLength.decSP : EncodedLength.Statement .decSP :=
  ⟨Nat.le_add_left 1 0, Nat.le_add_left 1 2⟩
theorem EncodedLength.incA : EncodedLength.Statement .incA :=
  ⟨Nat.le_add_left 1 0, Nat.le_add_left 1 2⟩
theorem EncodedLength.decA : EncodedLength.Statement .decA :=
  ⟨Nat.le_add_left 1 0, Nat.le_add_left 1 2⟩
theorem EncodedLength.ldAD8 (d8 : Byte) : EncodedLength.Statement (.ldAD8 d8) :=
  ⟨Nat.le_add_left 1 1, Nat.le_add_left 2 1⟩
theorem EncodedLength.ccf : EncodedLength.Statement .ccf :=
  ⟨Nat.le_add_left 1 0, Nat.le_add_left 1 2⟩
theorem EncodedLength.ldBB : EncodedLength.Statement .ldBB :=
  ⟨Nat.le_add_left 1 0, Nat.le_add_left 1 2⟩
theorem EncodedLength.ldBC : EncodedLength.Statement .ldBC :=
  ⟨Nat.le_add_left 1 0, Nat.le_add_left 1 2⟩
theorem EncodedLength.ldBD : EncodedLength.Statement .ldBD :=
  ⟨Nat.le_add_left 1 0, Nat.le_add_left 1 2⟩
theorem EncodedLength.ldBE : EncodedLength.Statement .ldBE :=
  ⟨Nat.le_add_left 1 0, Nat.le_add_left 1 2⟩
theorem EncodedLength.ldBH : EncodedLength.Statement .ldBH :=
  ⟨Nat.le_add_left 1 0, Nat.le_add_left 1 2⟩
theorem EncodedLength.ldBL : EncodedLength.Statement .ldBL :=
  ⟨Nat.le_add_left 1 0, Nat.le_add_left 1 2⟩
theorem EncodedLength.ldBAtHL : EncodedLength.Statement .ldBAtHL :=
  ⟨Nat.le_add_left 1 0, Nat.le_add_left 1 2⟩
theorem EncodedLength.ldBA : EncodedLength.Statement .ldBA :=
  ⟨Nat.le_add_left 1 0, Nat.le_add_left 1 2⟩
theorem EncodedLength.ldCB : EncodedLength.Statement .ldCB :=
  ⟨Nat.le_add_left 1 0, Nat.le_add_left 1 2⟩
theorem EncodedLength.ldCC : EncodedLength.Statement .ldCC :=
  ⟨Nat.le_add_left 1 0, Nat.le_add_left 1 2⟩
theorem EncodedLength.ldCD : EncodedLength.Statement .ldCD :=
  ⟨Nat.le_add_left 1 0, Nat.le_add_left 1 2⟩
theorem EncodedLength.ldCE : EncodedLength.Statement .ldCE :=
  ⟨Nat.le_add_left 1 0, Nat.le_add_left 1 2⟩
theorem EncodedLength.ldCH : EncodedLength.Statement .ldCH :=
  ⟨Nat.le_add_left 1 0, Nat.le_add_left 1 2⟩
theorem EncodedLength.ldCL : EncodedLength.Statement .ldCL :=
  ⟨Nat.le_add_left 1 0, Nat.le_add_left 1 2⟩
theorem EncodedLength.ldCAtHL : EncodedLength.Statement .ldCAtHL :=
  ⟨Nat.le_add_left 1 0, Nat.le_add_left 1 2⟩
theorem EncodedLength.ldCA : EncodedLength.Statement .ldCA :=
  ⟨Nat.le_add_left 1 0, Nat.le_add_left 1 2⟩
theorem EncodedLength.ldDB : EncodedLength.Statement .ldDB :=
  ⟨Nat.le_add_left 1 0, Nat.le_add_left 1 2⟩
theorem EncodedLength.ldDC : EncodedLength.Statement .ldDC :=
  ⟨Nat.le_add_left 1 0, Nat.le_add_left 1 2⟩
theorem EncodedLength.ldDD : EncodedLength.Statement .ldDD :=
  ⟨Nat.le_add_left 1 0, Nat.le_add_left 1 2⟩
theorem EncodedLength.ldDE : EncodedLength.Statement .ldDE :=
  ⟨Nat.le_add_left 1 0, Nat.le_add_left 1 2⟩
theorem EncodedLength.ldDH : EncodedLength.Statement .ldDH :=
  ⟨Nat.le_add_left 1 0, Nat.le_add_left 1 2⟩
theorem EncodedLength.ldDL : EncodedLength.Statement .ldDL :=
  ⟨Nat.le_add_left 1 0, Nat.le_add_left 1 2⟩
theorem EncodedLength.ldDAtHL : EncodedLength.Statement .ldDAtHL :=
  ⟨Nat.le_add_left 1 0, Nat.le_add_left 1 2⟩
theorem EncodedLength.ldDA : EncodedLength.Statement .ldDA :=
  ⟨Nat.le_add_left 1 0, Nat.le_add_left 1 2⟩
theorem EncodedLength.ldEB : EncodedLength.Statement .ldEB :=
  ⟨Nat.le_add_left 1 0, Nat.le_add_left 1 2⟩
theorem EncodedLength.ldEC : EncodedLength.Statement .ldEC :=
  ⟨Nat.le_add_left 1 0, Nat.le_add_left 1 2⟩
theorem EncodedLength.ldED : EncodedLength.Statement .ldED :=
  ⟨Nat.le_add_left 1 0, Nat.le_add_left 1 2⟩
theorem EncodedLength.ldEE : EncodedLength.Statement .ldEE :=
  ⟨Nat.le_add_left 1 0, Nat.le_add_left 1 2⟩
theorem EncodedLength.ldEH : EncodedLength.Statement .ldEH :=
  ⟨Nat.le_add_left 1 0, Nat.le_add_left 1 2⟩
theorem EncodedLength.ldEL : EncodedLength.Statement .ldEL :=
  ⟨Nat.le_add_left 1 0, Nat.le_add_left 1 2⟩
theorem EncodedLength.ldEAtHL : EncodedLength.Statement .ldEAtHL :=
  ⟨Nat.le_add_left 1 0, Nat.le_add_left 1 2⟩
theorem EncodedLength.ldEA : EncodedLength.Statement .ldEA :=
  ⟨Nat.le_add_left 1 0, Nat.le_add_left 1 2⟩
theorem EncodedLength.ldHB : EncodedLength.Statement .ldHB :=
  ⟨Nat.le_add_left 1 0, Nat.le_add_left 1 2⟩
theorem EncodedLength.ldHC : EncodedLength.Statement .ldHC :=
  ⟨Nat.le_add_left 1 0, Nat.le_add_left 1 2⟩
theorem EncodedLength.ldHD : EncodedLength.Statement .ldHD :=
  ⟨Nat.le_add_left 1 0, Nat.le_add_left 1 2⟩
theorem EncodedLength.ldHE : EncodedLength.Statement .ldHE :=
  ⟨Nat.le_add_left 1 0, Nat.le_add_left 1 2⟩
theorem EncodedLength.ldHH : EncodedLength.Statement .ldHH :=
  ⟨Nat.le_add_left 1 0, Nat.le_add_left 1 2⟩
theorem EncodedLength.ldHL : EncodedLength.Statement .ldHL :=
  ⟨Nat.le_add_left 1 0, Nat.le_add_left 1 2⟩
theorem EncodedLength.ldHAtHL : EncodedLength.Statement .ldHAtHL :=
  ⟨Nat.le_add_left 1 0, Nat.le_add_left 1 2⟩
theorem EncodedLength.ldHA : EncodedLength.Statement .ldHA :=
  ⟨Nat.le_add_left 1 0, Nat.le_add_left 1 2⟩
theorem EncodedLength.ldLB : EncodedLength.Statement .ldLB :=
  ⟨Nat.le_add_left 1 0, Nat.le_add_left 1 2⟩
theorem EncodedLength.ldLC : EncodedLength.Statement .ldLC :=
  ⟨Nat.le_add_left 1 0, Nat.le_add_left 1 2⟩
theorem EncodedLength.ldLD : EncodedLength.Statement .ldLD :=
  ⟨Nat.le_add_left 1 0, Nat.le_add_left 1 2⟩
theorem EncodedLength.ldLE : EncodedLength.Statement .ldLE :=
  ⟨Nat.le_add_left 1 0, Nat.le_add_left 1 2⟩
theorem EncodedLength.ldLH : EncodedLength.Statement .ldLH :=
  ⟨Nat.le_add_left 1 0, Nat.le_add_left 1 2⟩
theorem EncodedLength.ldLL : EncodedLength.Statement .ldLL :=
  ⟨Nat.le_add_left 1 0, Nat.le_add_left 1 2⟩
theorem EncodedLength.ldLAtHL : EncodedLength.Statement .ldLAtHL :=
  ⟨Nat.le_add_left 1 0, Nat.le_add_left 1 2⟩
theorem EncodedLength.ldLA : EncodedLength.Statement .ldLA :=
  ⟨Nat.le_add_left 1 0, Nat.le_add_left 1 2⟩
theorem EncodedLength.ldAtHLB : EncodedLength.Statement .ldAtHLB :=
  ⟨Nat.le_add_left 1 0, Nat.le_add_left 1 2⟩
theorem EncodedLength.ldAtHLC : EncodedLength.Statement .ldAtHLC :=
  ⟨Nat.le_add_left 1 0, Nat.le_add_left 1 2⟩
theorem EncodedLength.ldAtHLD : EncodedLength.Statement .ldAtHLD :=
  ⟨Nat.le_add_left 1 0, Nat.le_add_left 1 2⟩
theorem EncodedLength.ldAtHLE : EncodedLength.Statement .ldAtHLE :=
  ⟨Nat.le_add_left 1 0, Nat.le_add_left 1 2⟩
theorem EncodedLength.ldAtHLH : EncodedLength.Statement .ldAtHLH :=
  ⟨Nat.le_add_left 1 0, Nat.le_add_left 1 2⟩
theorem EncodedLength.ldAtHLL : EncodedLength.Statement .ldAtHLL :=
  ⟨Nat.le_add_left 1 0, Nat.le_add_left 1 2⟩
theorem EncodedLength.halt : EncodedLength.Statement .halt :=
  ⟨Nat.le_add_left 1 0, Nat.le_add_left 1 2⟩
theorem EncodedLength.ldAtHLA : EncodedLength.Statement .ldAtHLA :=
  ⟨Nat.le_add_left 1 0, Nat.le_add_left 1 2⟩
theorem EncodedLength.ldAB : EncodedLength.Statement .ldAB :=
  ⟨Nat.le_add_left 1 0, Nat.le_add_left 1 2⟩
theorem EncodedLength.ldAC : EncodedLength.Statement .ldAC :=
  ⟨Nat.le_add_left 1 0, Nat.le_add_left 1 2⟩
theorem EncodedLength.ldAD : EncodedLength.Statement .ldAD :=
  ⟨Nat.le_add_left 1 0, Nat.le_add_left 1 2⟩
theorem EncodedLength.ldAE : EncodedLength.Statement .ldAE :=
  ⟨Nat.le_add_left 1 0, Nat.le_add_left 1 2⟩
theorem EncodedLength.ldAH : EncodedLength.Statement .ldAH :=
  ⟨Nat.le_add_left 1 0, Nat.le_add_left 1 2⟩
theorem EncodedLength.ldAL : EncodedLength.Statement .ldAL :=
  ⟨Nat.le_add_left 1 0, Nat.le_add_left 1 2⟩
theorem EncodedLength.ldAAtHL : EncodedLength.Statement .ldAAtHL :=
  ⟨Nat.le_add_left 1 0, Nat.le_add_left 1 2⟩
theorem EncodedLength.ldAA : EncodedLength.Statement .ldAA :=
  ⟨Nat.le_add_left 1 0, Nat.le_add_left 1 2⟩
theorem EncodedLength.addAB : EncodedLength.Statement .addAB :=
  ⟨Nat.le_add_left 1 0, Nat.le_add_left 1 2⟩
theorem EncodedLength.addAC : EncodedLength.Statement .addAC :=
  ⟨Nat.le_add_left 1 0, Nat.le_add_left 1 2⟩
theorem EncodedLength.addAD : EncodedLength.Statement .addAD :=
  ⟨Nat.le_add_left 1 0, Nat.le_add_left 1 2⟩
theorem EncodedLength.addAE : EncodedLength.Statement .addAE :=
  ⟨Nat.le_add_left 1 0, Nat.le_add_left 1 2⟩
theorem EncodedLength.addAH : EncodedLength.Statement .addAH :=
  ⟨Nat.le_add_left 1 0, Nat.le_add_left 1 2⟩
theorem EncodedLength.addAL : EncodedLength.Statement .addAL :=
  ⟨Nat.le_add_left 1 0, Nat.le_add_left 1 2⟩
theorem EncodedLength.addAAtHL : EncodedLength.Statement .addAAtHL :=
  ⟨Nat.le_add_left 1 0, Nat.le_add_left 1 2⟩
theorem EncodedLength.addAA : EncodedLength.Statement .addAA :=
  ⟨Nat.le_add_left 1 0, Nat.le_add_left 1 2⟩
theorem EncodedLength.adcAB : EncodedLength.Statement .adcAB :=
  ⟨Nat.le_add_left 1 0, Nat.le_add_left 1 2⟩
theorem EncodedLength.adcAC : EncodedLength.Statement .adcAC :=
  ⟨Nat.le_add_left 1 0, Nat.le_add_left 1 2⟩
theorem EncodedLength.adcAD : EncodedLength.Statement .adcAD :=
  ⟨Nat.le_add_left 1 0, Nat.le_add_left 1 2⟩
theorem EncodedLength.adcAE : EncodedLength.Statement .adcAE :=
  ⟨Nat.le_add_left 1 0, Nat.le_add_left 1 2⟩
theorem EncodedLength.adcAH : EncodedLength.Statement .adcAH :=
  ⟨Nat.le_add_left 1 0, Nat.le_add_left 1 2⟩
theorem EncodedLength.adcAL : EncodedLength.Statement .adcAL :=
  ⟨Nat.le_add_left 1 0, Nat.le_add_left 1 2⟩
theorem EncodedLength.adcAAtHL : EncodedLength.Statement .adcAAtHL :=
  ⟨Nat.le_add_left 1 0, Nat.le_add_left 1 2⟩
theorem EncodedLength.adcAA : EncodedLength.Statement .adcAA :=
  ⟨Nat.le_add_left 1 0, Nat.le_add_left 1 2⟩
theorem EncodedLength.subB : EncodedLength.Statement .subB :=
  ⟨Nat.le_add_left 1 0, Nat.le_add_left 1 2⟩
theorem EncodedLength.subC : EncodedLength.Statement .subC :=
  ⟨Nat.le_add_left 1 0, Nat.le_add_left 1 2⟩
theorem EncodedLength.subD : EncodedLength.Statement .subD :=
  ⟨Nat.le_add_left 1 0, Nat.le_add_left 1 2⟩
theorem EncodedLength.subE : EncodedLength.Statement .subE :=
  ⟨Nat.le_add_left 1 0, Nat.le_add_left 1 2⟩
theorem EncodedLength.subH : EncodedLength.Statement .subH :=
  ⟨Nat.le_add_left 1 0, Nat.le_add_left 1 2⟩
theorem EncodedLength.subL : EncodedLength.Statement .subL :=
  ⟨Nat.le_add_left 1 0, Nat.le_add_left 1 2⟩
theorem EncodedLength.subAtHL : EncodedLength.Statement .subAtHL :=
  ⟨Nat.le_add_left 1 0, Nat.le_add_left 1 2⟩
theorem EncodedLength.subA : EncodedLength.Statement .subA :=
  ⟨Nat.le_add_left 1 0, Nat.le_add_left 1 2⟩
theorem EncodedLength.sbcAB : EncodedLength.Statement .sbcAB :=
  ⟨Nat.le_add_left 1 0, Nat.le_add_left 1 2⟩
theorem EncodedLength.sbcAC : EncodedLength.Statement .sbcAC :=
  ⟨Nat.le_add_left 1 0, Nat.le_add_left 1 2⟩
theorem EncodedLength.sbcAD : EncodedLength.Statement .sbcAD :=
  ⟨Nat.le_add_left 1 0, Nat.le_add_left 1 2⟩
theorem EncodedLength.sbcAE : EncodedLength.Statement .sbcAE :=
  ⟨Nat.le_add_left 1 0, Nat.le_add_left 1 2⟩
theorem EncodedLength.sbcAH : EncodedLength.Statement .sbcAH :=
  ⟨Nat.le_add_left 1 0, Nat.le_add_left 1 2⟩
theorem EncodedLength.sbcAL : EncodedLength.Statement .sbcAL :=
  ⟨Nat.le_add_left 1 0, Nat.le_add_left 1 2⟩
theorem EncodedLength.sbcAAtHL : EncodedLength.Statement .sbcAAtHL :=
  ⟨Nat.le_add_left 1 0, Nat.le_add_left 1 2⟩
theorem EncodedLength.sbcAA : EncodedLength.Statement .sbcAA :=
  ⟨Nat.le_add_left 1 0, Nat.le_add_left 1 2⟩
theorem EncodedLength.andB : EncodedLength.Statement .andB :=
  ⟨Nat.le_add_left 1 0, Nat.le_add_left 1 2⟩
theorem EncodedLength.andC : EncodedLength.Statement .andC :=
  ⟨Nat.le_add_left 1 0, Nat.le_add_left 1 2⟩
theorem EncodedLength.andD : EncodedLength.Statement .andD :=
  ⟨Nat.le_add_left 1 0, Nat.le_add_left 1 2⟩
theorem EncodedLength.andE : EncodedLength.Statement .andE :=
  ⟨Nat.le_add_left 1 0, Nat.le_add_left 1 2⟩
theorem EncodedLength.andH : EncodedLength.Statement .andH :=
  ⟨Nat.le_add_left 1 0, Nat.le_add_left 1 2⟩
theorem EncodedLength.andL : EncodedLength.Statement .andL :=
  ⟨Nat.le_add_left 1 0, Nat.le_add_left 1 2⟩
theorem EncodedLength.andAtHL : EncodedLength.Statement .andAtHL :=
  ⟨Nat.le_add_left 1 0, Nat.le_add_left 1 2⟩
theorem EncodedLength.andA : EncodedLength.Statement .andA :=
  ⟨Nat.le_add_left 1 0, Nat.le_add_left 1 2⟩
theorem EncodedLength.xorB : EncodedLength.Statement .xorB :=
  ⟨Nat.le_add_left 1 0, Nat.le_add_left 1 2⟩
theorem EncodedLength.xorC : EncodedLength.Statement .xorC :=
  ⟨Nat.le_add_left 1 0, Nat.le_add_left 1 2⟩
theorem EncodedLength.xorD : EncodedLength.Statement .xorD :=
  ⟨Nat.le_add_left 1 0, Nat.le_add_left 1 2⟩
theorem EncodedLength.xorE : EncodedLength.Statement .xorE :=
  ⟨Nat.le_add_left 1 0, Nat.le_add_left 1 2⟩
theorem EncodedLength.xorH : EncodedLength.Statement .xorH :=
  ⟨Nat.le_add_left 1 0, Nat.le_add_left 1 2⟩
theorem EncodedLength.xorL : EncodedLength.Statement .xorL :=
  ⟨Nat.le_add_left 1 0, Nat.le_add_left 1 2⟩
theorem EncodedLength.xorAtHL : EncodedLength.Statement .xorAtHL :=
  ⟨Nat.le_add_left 1 0, Nat.le_add_left 1 2⟩
theorem EncodedLength.xorA : EncodedLength.Statement .xorA :=
  ⟨Nat.le_add_left 1 0, Nat.le_add_left 1 2⟩
theorem EncodedLength.orB : EncodedLength.Statement .orB :=
  ⟨Nat.le_add_left 1 0, Nat.le_add_left 1 2⟩
theorem EncodedLength.orC : EncodedLength.Statement .orC :=
  ⟨Nat.le_add_left 1 0, Nat.le_add_left 1 2⟩
theorem EncodedLength.orD : EncodedLength.Statement .orD :=
  ⟨Nat.le_add_left 1 0, Nat.le_add_left 1 2⟩
theorem EncodedLength.orE : EncodedLength.Statement .orE :=
  ⟨Nat.le_add_left 1 0, Nat.le_add_left 1 2⟩
theorem EncodedLength.orH : EncodedLength.Statement .orH :=
  ⟨Nat.le_add_left 1 0, Nat.le_add_left 1 2⟩
theorem EncodedLength.orL : EncodedLength.Statement .orL :=
  ⟨Nat.le_add_left 1 0, Nat.le_add_left 1 2⟩
theorem EncodedLength.orAtHL : EncodedLength.Statement .orAtHL :=
  ⟨Nat.le_add_left 1 0, Nat.le_add_left 1 2⟩
theorem EncodedLength.orA : EncodedLength.Statement .orA :=
  ⟨Nat.le_add_left 1 0, Nat.le_add_left 1 2⟩
theorem EncodedLength.cpB : EncodedLength.Statement .cpB :=
  ⟨Nat.le_add_left 1 0, Nat.le_add_left 1 2⟩
theorem EncodedLength.cpC : EncodedLength.Statement .cpC :=
  ⟨Nat.le_add_left 1 0, Nat.le_add_left 1 2⟩
theorem EncodedLength.cpD : EncodedLength.Statement .cpD :=
  ⟨Nat.le_add_left 1 0, Nat.le_add_left 1 2⟩
theorem EncodedLength.cpE : EncodedLength.Statement .cpE :=
  ⟨Nat.le_add_left 1 0, Nat.le_add_left 1 2⟩
theorem EncodedLength.cpH : EncodedLength.Statement .cpH :=
  ⟨Nat.le_add_left 1 0, Nat.le_add_left 1 2⟩
theorem EncodedLength.cpL : EncodedLength.Statement .cpL :=
  ⟨Nat.le_add_left 1 0, Nat.le_add_left 1 2⟩
theorem EncodedLength.cpAtHL : EncodedLength.Statement .cpAtHL :=
  ⟨Nat.le_add_left 1 0, Nat.le_add_left 1 2⟩
theorem EncodedLength.cpA : EncodedLength.Statement .cpA :=
  ⟨Nat.le_add_left 1 0, Nat.le_add_left 1 2⟩
theorem EncodedLength.retNZ : EncodedLength.Statement .retNZ :=
  ⟨Nat.le_add_left 1 0, Nat.le_add_left 1 2⟩
theorem EncodedLength.popBC : EncodedLength.Statement .popBC :=
  ⟨Nat.le_add_left 1 0, Nat.le_add_left 1 2⟩
theorem EncodedLength.jpNZA16 (a16 : Word) : EncodedLength.Statement (.jpNZA16 a16) :=
  ⟨Nat.le_add_left 1 2, Nat.le_add_left 3 0⟩
theorem EncodedLength.jpA16 (a16 : Word) : EncodedLength.Statement (.jpA16 a16) :=
  ⟨Nat.le_add_left 1 2, Nat.le_add_left 3 0⟩
theorem EncodedLength.callNZA16 (a16 : Word) : EncodedLength.Statement (.callNZA16 a16) :=
  ⟨Nat.le_add_left 1 2, Nat.le_add_left 3 0⟩
theorem EncodedLength.pushBC : EncodedLength.Statement .pushBC :=
  ⟨Nat.le_add_left 1 0, Nat.le_add_left 1 2⟩
theorem EncodedLength.addAD8 (d8 : Byte) : EncodedLength.Statement (.addAD8 d8) :=
  ⟨Nat.le_add_left 1 1, Nat.le_add_left 2 1⟩
theorem EncodedLength.rst00 : EncodedLength.Statement .rst00 :=
  ⟨Nat.le_add_left 1 0, Nat.le_add_left 1 2⟩
theorem EncodedLength.retZ : EncodedLength.Statement .retZ :=
  ⟨Nat.le_add_left 1 0, Nat.le_add_left 1 2⟩
theorem EncodedLength.ret : EncodedLength.Statement .ret :=
  ⟨Nat.le_add_left 1 0, Nat.le_add_left 1 2⟩
theorem EncodedLength.jpZA16 (a16 : Word) : EncodedLength.Statement (.jpZA16 a16) :=
  ⟨Nat.le_add_left 1 2, Nat.le_add_left 3 0⟩
theorem EncodedLength.prefixCB (op2 : Byte) : EncodedLength.Statement (.prefixCB op2) :=
  ⟨Nat.le_add_left 1 1, Nat.le_add_left 2 1⟩
theorem EncodedLength.callZA16 (a16 : Word) : EncodedLength.Statement (.callZA16 a16) :=
  ⟨Nat.le_add_left 1 2, Nat.le_add_left 3 0⟩
theorem EncodedLength.callA16 (a16 : Word) : EncodedLength.Statement (.callA16 a16) :=
  ⟨Nat.le_add_left 1 2, Nat.le_add_left 3 0⟩
theorem EncodedLength.adcAD8 (d8 : Byte) : EncodedLength.Statement (.adcAD8 d8) :=
  ⟨Nat.le_add_left 1 1, Nat.le_add_left 2 1⟩
theorem EncodedLength.rst08 : EncodedLength.Statement .rst08 :=
  ⟨Nat.le_add_left 1 0, Nat.le_add_left 1 2⟩
theorem EncodedLength.retNC : EncodedLength.Statement .retNC :=
  ⟨Nat.le_add_left 1 0, Nat.le_add_left 1 2⟩
theorem EncodedLength.popDE : EncodedLength.Statement .popDE :=
  ⟨Nat.le_add_left 1 0, Nat.le_add_left 1 2⟩
theorem EncodedLength.jpNCA16 (a16 : Word) : EncodedLength.Statement (.jpNCA16 a16) :=
  ⟨Nat.le_add_left 1 2, Nat.le_add_left 3 0⟩
theorem EncodedLength.undefD3 : EncodedLength.Statement .undefD3 :=
  ⟨Nat.le_add_left 1 0, Nat.le_add_left 1 2⟩
theorem EncodedLength.callNCA16 (a16 : Word) : EncodedLength.Statement (.callNCA16 a16) :=
  ⟨Nat.le_add_left 1 2, Nat.le_add_left 3 0⟩
theorem EncodedLength.pushDE : EncodedLength.Statement .pushDE :=
  ⟨Nat.le_add_left 1 0, Nat.le_add_left 1 2⟩
theorem EncodedLength.subD8 (d8 : Byte) : EncodedLength.Statement (.subD8 d8) :=
  ⟨Nat.le_add_left 1 1, Nat.le_add_left 2 1⟩
theorem EncodedLength.rst10 : EncodedLength.Statement .rst10 :=
  ⟨Nat.le_add_left 1 0, Nat.le_add_left 1 2⟩
theorem EncodedLength.retC : EncodedLength.Statement .retC :=
  ⟨Nat.le_add_left 1 0, Nat.le_add_left 1 2⟩
theorem EncodedLength.reti : EncodedLength.Statement .reti :=
  ⟨Nat.le_add_left 1 0, Nat.le_add_left 1 2⟩
theorem EncodedLength.jpCA16 (a16 : Word) : EncodedLength.Statement (.jpCA16 a16) :=
  ⟨Nat.le_add_left 1 2, Nat.le_add_left 3 0⟩
theorem EncodedLength.undefDB : EncodedLength.Statement .undefDB :=
  ⟨Nat.le_add_left 1 0, Nat.le_add_left 1 2⟩
theorem EncodedLength.callCA16 (a16 : Word) : EncodedLength.Statement (.callCA16 a16) :=
  ⟨Nat.le_add_left 1 2, Nat.le_add_left 3 0⟩
theorem EncodedLength.undefDD : EncodedLength.Statement .undefDD :=
  ⟨Nat.le_add_left 1 0, Nat.le_add_left 1 2⟩
theorem EncodedLength.sbcAD8 (d8 : Byte) : EncodedLength.Statement (.sbcAD8 d8) :=
  ⟨Nat.le_add_left 1 1, Nat.le_add_left 2 1⟩
theorem EncodedLength.rst18 : EncodedLength.Statement .rst18 :=
  ⟨Nat.le_add_left 1 0, Nat.le_add_left 1 2⟩
theorem EncodedLength.ldhAtA8A (a8 : Byte) : EncodedLength.Statement (.ldhAtA8A a8) :=
  ⟨Nat.le_add_left 1 1, Nat.le_add_left 2 1⟩
theorem EncodedLength.popHL : EncodedLength.Statement .popHL :=
  ⟨Nat.le_add_left 1 0, Nat.le_add_left 1 2⟩
theorem EncodedLength.ldAtCA : EncodedLength.Statement .ldAtCA :=
  ⟨Nat.le_add_left 1 0, Nat.le_add_left 1 2⟩
theorem EncodedLength.undefE3 : EncodedLength.Statement .undefE3 :=
  ⟨Nat.le_add_left 1 0, Nat.le_add_left 1 2⟩
theorem EncodedLength.undefE4 : EncodedLength.Statement .undefE4 :=
  ⟨Nat.le_add_left 1 0, Nat.le_add_left 1 2⟩
theorem EncodedLength.pushHL : EncodedLength.Statement .pushHL :=
  ⟨Nat.le_add_left 1 0, Nat.le_add_left 1 2⟩
theorem EncodedLength.andD8 (d8 : Byte) : EncodedLength.Statement (.andD8 d8) :=
  ⟨Nat.le_add_left 1 1, Nat.le_add_left 2 1⟩
theorem EncodedLength.rst20 : EncodedLength.Statement .rst20 :=
  ⟨Nat.le_add_left 1 0, Nat.le_add_left 1 2⟩
theorem EncodedLength.addSPE8 (e8 : Byte) : EncodedLength.Statement (.addSPE8 e8) :=
  ⟨Nat.le_add_left 1 1, Nat.le_add_left 2 1⟩
theorem EncodedLength.jpAtHL : EncodedLength.Statement .jpAtHL :=
  ⟨Nat.le_add_left 1 0, Nat.le_add_left 1 2⟩
theorem EncodedLength.ldAtA16A (a16 : Word) : EncodedLength.Statement (.ldAtA16A a16) :=
  ⟨Nat.le_add_left 1 2, Nat.le_add_left 3 0⟩
theorem EncodedLength.undefEB : EncodedLength.Statement .undefEB :=
  ⟨Nat.le_add_left 1 0, Nat.le_add_left 1 2⟩
theorem EncodedLength.undefEC : EncodedLength.Statement .undefEC :=
  ⟨Nat.le_add_left 1 0, Nat.le_add_left 1 2⟩
theorem EncodedLength.undefED : EncodedLength.Statement .undefED :=
  ⟨Nat.le_add_left 1 0, Nat.le_add_left 1 2⟩
theorem EncodedLength.xorD8 (d8 : Byte) : EncodedLength.Statement (.xorD8 d8) :=
  ⟨Nat.le_add_left 1 1, Nat.le_add_left 2 1⟩
theorem EncodedLength.rst28 : EncodedLength.Statement .rst28 :=
  ⟨Nat.le_add_left 1 0, Nat.le_add_left 1 2⟩
theorem EncodedLength.ldhAAtA8 (a8 : Byte) : EncodedLength.Statement (.ldhAAtA8 a8) :=
  ⟨Nat.le_add_left 1 1, Nat.le_add_left 2 1⟩
theorem EncodedLength.popAF : EncodedLength.Statement .popAF :=
  ⟨Nat.le_add_left 1 0, Nat.le_add_left 1 2⟩
theorem EncodedLength.ldAAtC : EncodedLength.Statement .ldAAtC :=
  ⟨Nat.le_add_left 1 0, Nat.le_add_left 1 2⟩
theorem EncodedLength.di : EncodedLength.Statement .di :=
  ⟨Nat.le_add_left 1 0, Nat.le_add_left 1 2⟩
theorem EncodedLength.undefF4 : EncodedLength.Statement .undefF4 :=
  ⟨Nat.le_add_left 1 0, Nat.le_add_left 1 2⟩
theorem EncodedLength.pushAF : EncodedLength.Statement .pushAF :=
  ⟨Nat.le_add_left 1 0, Nat.le_add_left 1 2⟩
theorem EncodedLength.orD8 (d8 : Byte) : EncodedLength.Statement (.orD8 d8) :=
  ⟨Nat.le_add_left 1 1, Nat.le_add_left 2 1⟩
theorem EncodedLength.rst30 : EncodedLength.Statement .rst30 :=
  ⟨Nat.le_add_left 1 0, Nat.le_add_left 1 2⟩
theorem EncodedLength.ldHLSPE8 (e8 : Byte) : EncodedLength.Statement (.ldHLSPE8 e8) :=
  ⟨Nat.le_add_left 1 1, Nat.le_add_left 2 1⟩
theorem EncodedLength.ldSPHL : EncodedLength.Statement .ldSPHL :=
  ⟨Nat.le_add_left 1 0, Nat.le_add_left 1 2⟩
theorem EncodedLength.ldAAtA16 (a16 : Word) : EncodedLength.Statement (.ldAAtA16 a16) :=
  ⟨Nat.le_add_left 1 2, Nat.le_add_left 3 0⟩
theorem EncodedLength.ei : EncodedLength.Statement .ei :=
  ⟨Nat.le_add_left 1 0, Nat.le_add_left 1 2⟩
theorem EncodedLength.undefFC : EncodedLength.Statement .undefFC :=
  ⟨Nat.le_add_left 1 0, Nat.le_add_left 1 2⟩
theorem EncodedLength.undefFD : EncodedLength.Statement .undefFD :=
  ⟨Nat.le_add_left 1 0, Nat.le_add_left 1 2⟩
theorem EncodedLength.cpD8 (d8 : Byte) : EncodedLength.Statement (.cpD8 d8) :=
  ⟨Nat.le_add_left 1 1, Nat.le_add_left 2 1⟩
theorem EncodedLength.rst38 : EncodedLength.Statement .rst38 :=
  ⟨Nat.le_add_left 1 0, Nat.le_add_left 1 2⟩
theorem EncodedLength.rlcB : EncodedLength.Statement .rlcB :=
  ⟨Nat.le_add_left 1 1, Nat.le_add_left 2 1⟩
theorem EncodedLength.rlcC : EncodedLength.Statement .rlcC :=
  ⟨Nat.le_add_left 1 1, Nat.le_add_left 2 1⟩
theorem EncodedLength.rlcD : EncodedLength.Statement .rlcD :=
  ⟨Nat.le_add_left 1 1, Nat.le_add_left 2 1⟩
theorem EncodedLength.rlcE : EncodedLength.Statement .rlcE :=
  ⟨Nat.le_add_left 1 1, Nat.le_add_left 2 1⟩
theorem EncodedLength.rlcH : EncodedLength.Statement .rlcH :=
  ⟨Nat.le_add_left 1 1, Nat.le_add_left 2 1⟩
theorem EncodedLength.rlcL : EncodedLength.Statement .rlcL :=
  ⟨Nat.le_add_left 1 1, Nat.le_add_left 2 1⟩
theorem EncodedLength.rlcAtHL : EncodedLength.Statement .rlcAtHL :=
  ⟨Nat.le_add_left 1 1, Nat.le_add_left 2 1⟩
theorem EncodedLength.rlcA : EncodedLength.Statement .rlcA :=
  ⟨Nat.le_add_left 1 1, Nat.le_add_left 2 1⟩
theorem EncodedLength.rrcB : EncodedLength.Statement .rrcB :=
  ⟨Nat.le_add_left 1 1, Nat.le_add_left 2 1⟩
theorem EncodedLength.rrcC : EncodedLength.Statement .rrcC :=
  ⟨Nat.le_add_left 1 1, Nat.le_add_left 2 1⟩
theorem EncodedLength.rrcD : EncodedLength.Statement .rrcD :=
  ⟨Nat.le_add_left 1 1, Nat.le_add_left 2 1⟩
theorem EncodedLength.rrcE : EncodedLength.Statement .rrcE :=
  ⟨Nat.le_add_left 1 1, Nat.le_add_left 2 1⟩
theorem EncodedLength.rrcH : EncodedLength.Statement .rrcH :=
  ⟨Nat.le_add_left 1 1, Nat.le_add_left 2 1⟩
theorem EncodedLength.rrcL : EncodedLength.Statement .rrcL :=
  ⟨Nat.le_add_left 1 1, Nat.le_add_left 2 1⟩
theorem EncodedLength.rrcAtHL : EncodedLength.Statement .rrcAtHL :=
  ⟨Nat.le_add_left 1 1, Nat.le_add_left 2 1⟩
theorem EncodedLength.rrcA : EncodedLength.Statement .rrcA :=
  ⟨Nat.le_add_left 1 1, Nat.le_add_left 2 1⟩
theorem EncodedLength.rlB : EncodedLength.Statement .rlB :=
  ⟨Nat.le_add_left 1 1, Nat.le_add_left 2 1⟩
theorem EncodedLength.rlC : EncodedLength.Statement .rlC :=
  ⟨Nat.le_add_left 1 1, Nat.le_add_left 2 1⟩
theorem EncodedLength.rlD : EncodedLength.Statement .rlD :=
  ⟨Nat.le_add_left 1 1, Nat.le_add_left 2 1⟩
theorem EncodedLength.rlE : EncodedLength.Statement .rlE :=
  ⟨Nat.le_add_left 1 1, Nat.le_add_left 2 1⟩
theorem EncodedLength.rlH : EncodedLength.Statement .rlH :=
  ⟨Nat.le_add_left 1 1, Nat.le_add_left 2 1⟩
theorem EncodedLength.rlL : EncodedLength.Statement .rlL :=
  ⟨Nat.le_add_left 1 1, Nat.le_add_left 2 1⟩
theorem EncodedLength.rlAtHL : EncodedLength.Statement .rlAtHL :=
  ⟨Nat.le_add_left 1 1, Nat.le_add_left 2 1⟩
theorem EncodedLength.rlA : EncodedLength.Statement .rlA :=
  ⟨Nat.le_add_left 1 1, Nat.le_add_left 2 1⟩
theorem EncodedLength.rrB : EncodedLength.Statement .rrB :=
  ⟨Nat.le_add_left 1 1, Nat.le_add_left 2 1⟩
theorem EncodedLength.rrC : EncodedLength.Statement .rrC :=
  ⟨Nat.le_add_left 1 1, Nat.le_add_left 2 1⟩
theorem EncodedLength.rrD : EncodedLength.Statement .rrD :=
  ⟨Nat.le_add_left 1 1, Nat.le_add_left 2 1⟩
theorem EncodedLength.rrE : EncodedLength.Statement .rrE :=
  ⟨Nat.le_add_left 1 1, Nat.le_add_left 2 1⟩
theorem EncodedLength.rrH : EncodedLength.Statement .rrH :=
  ⟨Nat.le_add_left 1 1, Nat.le_add_left 2 1⟩
theorem EncodedLength.rrL : EncodedLength.Statement .rrL :=
  ⟨Nat.le_add_left 1 1, Nat.le_add_left 2 1⟩
theorem EncodedLength.rrAtHL : EncodedLength.Statement .rrAtHL :=
  ⟨Nat.le_add_left 1 1, Nat.le_add_left 2 1⟩
theorem EncodedLength.rrA : EncodedLength.Statement .rrA :=
  ⟨Nat.le_add_left 1 1, Nat.le_add_left 2 1⟩
theorem EncodedLength.slaB : EncodedLength.Statement .slaB :=
  ⟨Nat.le_add_left 1 1, Nat.le_add_left 2 1⟩
theorem EncodedLength.slaC : EncodedLength.Statement .slaC :=
  ⟨Nat.le_add_left 1 1, Nat.le_add_left 2 1⟩
theorem EncodedLength.slaD : EncodedLength.Statement .slaD :=
  ⟨Nat.le_add_left 1 1, Nat.le_add_left 2 1⟩
theorem EncodedLength.slaE : EncodedLength.Statement .slaE :=
  ⟨Nat.le_add_left 1 1, Nat.le_add_left 2 1⟩
theorem EncodedLength.slaH : EncodedLength.Statement .slaH :=
  ⟨Nat.le_add_left 1 1, Nat.le_add_left 2 1⟩
theorem EncodedLength.slaL : EncodedLength.Statement .slaL :=
  ⟨Nat.le_add_left 1 1, Nat.le_add_left 2 1⟩
theorem EncodedLength.slaAtHL : EncodedLength.Statement .slaAtHL :=
  ⟨Nat.le_add_left 1 1, Nat.le_add_left 2 1⟩
theorem EncodedLength.slaA : EncodedLength.Statement .slaA :=
  ⟨Nat.le_add_left 1 1, Nat.le_add_left 2 1⟩
theorem EncodedLength.sraB : EncodedLength.Statement .sraB :=
  ⟨Nat.le_add_left 1 1, Nat.le_add_left 2 1⟩
theorem EncodedLength.sraC : EncodedLength.Statement .sraC :=
  ⟨Nat.le_add_left 1 1, Nat.le_add_left 2 1⟩
theorem EncodedLength.sraD : EncodedLength.Statement .sraD :=
  ⟨Nat.le_add_left 1 1, Nat.le_add_left 2 1⟩
theorem EncodedLength.sraE : EncodedLength.Statement .sraE :=
  ⟨Nat.le_add_left 1 1, Nat.le_add_left 2 1⟩
theorem EncodedLength.sraH : EncodedLength.Statement .sraH :=
  ⟨Nat.le_add_left 1 1, Nat.le_add_left 2 1⟩
theorem EncodedLength.sraL : EncodedLength.Statement .sraL :=
  ⟨Nat.le_add_left 1 1, Nat.le_add_left 2 1⟩
theorem EncodedLength.sraAtHL : EncodedLength.Statement .sraAtHL :=
  ⟨Nat.le_add_left 1 1, Nat.le_add_left 2 1⟩
theorem EncodedLength.sraA : EncodedLength.Statement .sraA :=
  ⟨Nat.le_add_left 1 1, Nat.le_add_left 2 1⟩
theorem EncodedLength.swapB : EncodedLength.Statement .swapB :=
  ⟨Nat.le_add_left 1 1, Nat.le_add_left 2 1⟩
theorem EncodedLength.swapC : EncodedLength.Statement .swapC :=
  ⟨Nat.le_add_left 1 1, Nat.le_add_left 2 1⟩
theorem EncodedLength.swapD : EncodedLength.Statement .swapD :=
  ⟨Nat.le_add_left 1 1, Nat.le_add_left 2 1⟩
theorem EncodedLength.swapE : EncodedLength.Statement .swapE :=
  ⟨Nat.le_add_left 1 1, Nat.le_add_left 2 1⟩
theorem EncodedLength.swapH : EncodedLength.Statement .swapH :=
  ⟨Nat.le_add_left 1 1, Nat.le_add_left 2 1⟩
theorem EncodedLength.swapL : EncodedLength.Statement .swapL :=
  ⟨Nat.le_add_left 1 1, Nat.le_add_left 2 1⟩
theorem EncodedLength.swapAtHL : EncodedLength.Statement .swapAtHL :=
  ⟨Nat.le_add_left 1 1, Nat.le_add_left 2 1⟩
theorem EncodedLength.swapA : EncodedLength.Statement .swapA :=
  ⟨Nat.le_add_left 1 1, Nat.le_add_left 2 1⟩
theorem EncodedLength.srlB : EncodedLength.Statement .srlB :=
  ⟨Nat.le_add_left 1 1, Nat.le_add_left 2 1⟩
theorem EncodedLength.srlC : EncodedLength.Statement .srlC :=
  ⟨Nat.le_add_left 1 1, Nat.le_add_left 2 1⟩
theorem EncodedLength.srlD : EncodedLength.Statement .srlD :=
  ⟨Nat.le_add_left 1 1, Nat.le_add_left 2 1⟩
theorem EncodedLength.srlE : EncodedLength.Statement .srlE :=
  ⟨Nat.le_add_left 1 1, Nat.le_add_left 2 1⟩
theorem EncodedLength.srlH : EncodedLength.Statement .srlH :=
  ⟨Nat.le_add_left 1 1, Nat.le_add_left 2 1⟩
theorem EncodedLength.srlL : EncodedLength.Statement .srlL :=
  ⟨Nat.le_add_left 1 1, Nat.le_add_left 2 1⟩
theorem EncodedLength.srlAtHL : EncodedLength.Statement .srlAtHL :=
  ⟨Nat.le_add_left 1 1, Nat.le_add_left 2 1⟩
theorem EncodedLength.srlA : EncodedLength.Statement .srlA :=
  ⟨Nat.le_add_left 1 1, Nat.le_add_left 2 1⟩
theorem EncodedLength.bit0B : EncodedLength.Statement .bit0B :=
  ⟨Nat.le_add_left 1 1, Nat.le_add_left 2 1⟩
theorem EncodedLength.bit0C : EncodedLength.Statement .bit0C :=
  ⟨Nat.le_add_left 1 1, Nat.le_add_left 2 1⟩
theorem EncodedLength.bit0D : EncodedLength.Statement .bit0D :=
  ⟨Nat.le_add_left 1 1, Nat.le_add_left 2 1⟩
theorem EncodedLength.bit0E : EncodedLength.Statement .bit0E :=
  ⟨Nat.le_add_left 1 1, Nat.le_add_left 2 1⟩
theorem EncodedLength.bit0H : EncodedLength.Statement .bit0H :=
  ⟨Nat.le_add_left 1 1, Nat.le_add_left 2 1⟩
theorem EncodedLength.bit0L : EncodedLength.Statement .bit0L :=
  ⟨Nat.le_add_left 1 1, Nat.le_add_left 2 1⟩
theorem EncodedLength.bit0AtHL : EncodedLength.Statement .bit0AtHL :=
  ⟨Nat.le_add_left 1 1, Nat.le_add_left 2 1⟩
theorem EncodedLength.bit0A : EncodedLength.Statement .bit0A :=
  ⟨Nat.le_add_left 1 1, Nat.le_add_left 2 1⟩
theorem EncodedLength.bit1B : EncodedLength.Statement .bit1B :=
  ⟨Nat.le_add_left 1 1, Nat.le_add_left 2 1⟩
theorem EncodedLength.bit1C : EncodedLength.Statement .bit1C :=
  ⟨Nat.le_add_left 1 1, Nat.le_add_left 2 1⟩
theorem EncodedLength.bit1D : EncodedLength.Statement .bit1D :=
  ⟨Nat.le_add_left 1 1, Nat.le_add_left 2 1⟩
theorem EncodedLength.bit1E : EncodedLength.Statement .bit1E :=
  ⟨Nat.le_add_left 1 1, Nat.le_add_left 2 1⟩
theorem EncodedLength.bit1H : EncodedLength.Statement .bit1H :=
  ⟨Nat.le_add_left 1 1, Nat.le_add_left 2 1⟩
theorem EncodedLength.bit1L : EncodedLength.Statement .bit1L :=
  ⟨Nat.le_add_left 1 1, Nat.le_add_left 2 1⟩
theorem EncodedLength.bit1AtHL : EncodedLength.Statement .bit1AtHL :=
  ⟨Nat.le_add_left 1 1, Nat.le_add_left 2 1⟩
theorem EncodedLength.bit1A : EncodedLength.Statement .bit1A :=
  ⟨Nat.le_add_left 1 1, Nat.le_add_left 2 1⟩
theorem EncodedLength.bit2B : EncodedLength.Statement .bit2B :=
  ⟨Nat.le_add_left 1 1, Nat.le_add_left 2 1⟩
theorem EncodedLength.bit2C : EncodedLength.Statement .bit2C :=
  ⟨Nat.le_add_left 1 1, Nat.le_add_left 2 1⟩
theorem EncodedLength.bit2D : EncodedLength.Statement .bit2D :=
  ⟨Nat.le_add_left 1 1, Nat.le_add_left 2 1⟩
theorem EncodedLength.bit2E : EncodedLength.Statement .bit2E :=
  ⟨Nat.le_add_left 1 1, Nat.le_add_left 2 1⟩
theorem EncodedLength.bit2H : EncodedLength.Statement .bit2H :=
  ⟨Nat.le_add_left 1 1, Nat.le_add_left 2 1⟩
theorem EncodedLength.bit2L : EncodedLength.Statement .bit2L :=
  ⟨Nat.le_add_left 1 1, Nat.le_add_left 2 1⟩
theorem EncodedLength.bit2AtHL : EncodedLength.Statement .bit2AtHL :=
  ⟨Nat.le_add_left 1 1, Nat.le_add_left 2 1⟩
theorem EncodedLength.bit2A : EncodedLength.Statement .bit2A :=
  ⟨Nat.le_add_left 1 1, Nat.le_add_left 2 1⟩
theorem EncodedLength.bit3B : EncodedLength.Statement .bit3B :=
  ⟨Nat.le_add_left 1 1, Nat.le_add_left 2 1⟩
theorem EncodedLength.bit3C : EncodedLength.Statement .bit3C :=
  ⟨Nat.le_add_left 1 1, Nat.le_add_left 2 1⟩
theorem EncodedLength.bit3D : EncodedLength.Statement .bit3D :=
  ⟨Nat.le_add_left 1 1, Nat.le_add_left 2 1⟩
theorem EncodedLength.bit3E : EncodedLength.Statement .bit3E :=
  ⟨Nat.le_add_left 1 1, Nat.le_add_left 2 1⟩
theorem EncodedLength.bit3H : EncodedLength.Statement .bit3H :=
  ⟨Nat.le_add_left 1 1, Nat.le_add_left 2 1⟩
theorem EncodedLength.bit3L : EncodedLength.Statement .bit3L :=
  ⟨Nat.le_add_left 1 1, Nat.le_add_left 2 1⟩
theorem EncodedLength.bit3AtHL : EncodedLength.Statement .bit3AtHL :=
  ⟨Nat.le_add_left 1 1, Nat.le_add_left 2 1⟩
theorem EncodedLength.bit3A : EncodedLength.Statement .bit3A :=
  ⟨Nat.le_add_left 1 1, Nat.le_add_left 2 1⟩
theorem EncodedLength.bit4B : EncodedLength.Statement .bit4B :=
  ⟨Nat.le_add_left 1 1, Nat.le_add_left 2 1⟩
theorem EncodedLength.bit4C : EncodedLength.Statement .bit4C :=
  ⟨Nat.le_add_left 1 1, Nat.le_add_left 2 1⟩
theorem EncodedLength.bit4D : EncodedLength.Statement .bit4D :=
  ⟨Nat.le_add_left 1 1, Nat.le_add_left 2 1⟩
theorem EncodedLength.bit4E : EncodedLength.Statement .bit4E :=
  ⟨Nat.le_add_left 1 1, Nat.le_add_left 2 1⟩
theorem EncodedLength.bit4H : EncodedLength.Statement .bit4H :=
  ⟨Nat.le_add_left 1 1, Nat.le_add_left 2 1⟩
theorem EncodedLength.bit4L : EncodedLength.Statement .bit4L :=
  ⟨Nat.le_add_left 1 1, Nat.le_add_left 2 1⟩
theorem EncodedLength.bit4AtHL : EncodedLength.Statement .bit4AtHL :=
  ⟨Nat.le_add_left 1 1, Nat.le_add_left 2 1⟩
theorem EncodedLength.bit4A : EncodedLength.Statement .bit4A :=
  ⟨Nat.le_add_left 1 1, Nat.le_add_left 2 1⟩
theorem EncodedLength.bit5B : EncodedLength.Statement .bit5B :=
  ⟨Nat.le_add_left 1 1, Nat.le_add_left 2 1⟩
theorem EncodedLength.bit5C : EncodedLength.Statement .bit5C :=
  ⟨Nat.le_add_left 1 1, Nat.le_add_left 2 1⟩
theorem EncodedLength.bit5D : EncodedLength.Statement .bit5D :=
  ⟨Nat.le_add_left 1 1, Nat.le_add_left 2 1⟩
theorem EncodedLength.bit5E : EncodedLength.Statement .bit5E :=
  ⟨Nat.le_add_left 1 1, Nat.le_add_left 2 1⟩
theorem EncodedLength.bit5H : EncodedLength.Statement .bit5H :=
  ⟨Nat.le_add_left 1 1, Nat.le_add_left 2 1⟩
theorem EncodedLength.bit5L : EncodedLength.Statement .bit5L :=
  ⟨Nat.le_add_left 1 1, Nat.le_add_left 2 1⟩
theorem EncodedLength.bit5AtHL : EncodedLength.Statement .bit5AtHL :=
  ⟨Nat.le_add_left 1 1, Nat.le_add_left 2 1⟩
theorem EncodedLength.bit5A : EncodedLength.Statement .bit5A :=
  ⟨Nat.le_add_left 1 1, Nat.le_add_left 2 1⟩
theorem EncodedLength.bit6B : EncodedLength.Statement .bit6B :=
  ⟨Nat.le_add_left 1 1, Nat.le_add_left 2 1⟩
theorem EncodedLength.bit6C : EncodedLength.Statement .bit6C :=
  ⟨Nat.le_add_left 1 1, Nat.le_add_left 2 1⟩
theorem EncodedLength.bit6D : EncodedLength.Statement .bit6D :=
  ⟨Nat.le_add_left 1 1, Nat.le_add_left 2 1⟩
theorem EncodedLength.bit6E : EncodedLength.Statement .bit6E :=
  ⟨Nat.le_add_left 1 1, Nat.le_add_left 2 1⟩
theorem EncodedLength.bit6H : EncodedLength.Statement .bit6H :=
  ⟨Nat.le_add_left 1 1, Nat.le_add_left 2 1⟩
theorem EncodedLength.bit6L : EncodedLength.Statement .bit6L :=
  ⟨Nat.le_add_left 1 1, Nat.le_add_left 2 1⟩
theorem EncodedLength.bit6AtHL : EncodedLength.Statement .bit6AtHL :=
  ⟨Nat.le_add_left 1 1, Nat.le_add_left 2 1⟩
theorem EncodedLength.bit6A : EncodedLength.Statement .bit6A :=
  ⟨Nat.le_add_left 1 1, Nat.le_add_left 2 1⟩
theorem EncodedLength.bit7B : EncodedLength.Statement .bit7B :=
  ⟨Nat.le_add_left 1 1, Nat.le_add_left 2 1⟩
theorem EncodedLength.bit7C : EncodedLength.Statement .bit7C :=
  ⟨Nat.le_add_left 1 1, Nat.le_add_left 2 1⟩
theorem EncodedLength.bit7D : EncodedLength.Statement .bit7D :=
  ⟨Nat.le_add_left 1 1, Nat.le_add_left 2 1⟩
theorem EncodedLength.bit7E : EncodedLength.Statement .bit7E :=
  ⟨Nat.le_add_left 1 1, Nat.le_add_left 2 1⟩
theorem EncodedLength.bit7H : EncodedLength.Statement .bit7H :=
  ⟨Nat.le_add_left 1 1, Nat.le_add_left 2 1⟩
theorem EncodedLength.bit7L : EncodedLength.Statement .bit7L :=
  ⟨Nat.le_add_left 1 1, Nat.le_add_left 2 1⟩
theorem EncodedLength.bit7AtHL : EncodedLength.Statement .bit7AtHL :=
  ⟨Nat.le_add_left 1 1, Nat.le_add_left 2 1⟩
theorem EncodedLength.bit7A : EncodedLength.Statement .bit7A :=
  ⟨Nat.le_add_left 1 1, Nat.le_add_left 2 1⟩
theorem EncodedLength.res0B : EncodedLength.Statement .res0B :=
  ⟨Nat.le_add_left 1 1, Nat.le_add_left 2 1⟩
theorem EncodedLength.res0C : EncodedLength.Statement .res0C :=
  ⟨Nat.le_add_left 1 1, Nat.le_add_left 2 1⟩
theorem EncodedLength.res0D : EncodedLength.Statement .res0D :=
  ⟨Nat.le_add_left 1 1, Nat.le_add_left 2 1⟩
theorem EncodedLength.res0E : EncodedLength.Statement .res0E :=
  ⟨Nat.le_add_left 1 1, Nat.le_add_left 2 1⟩
theorem EncodedLength.res0H : EncodedLength.Statement .res0H :=
  ⟨Nat.le_add_left 1 1, Nat.le_add_left 2 1⟩
theorem EncodedLength.res0L : EncodedLength.Statement .res0L :=
  ⟨Nat.le_add_left 1 1, Nat.le_add_left 2 1⟩
theorem EncodedLength.res0AtHL : EncodedLength.Statement .res0AtHL :=
  ⟨Nat.le_add_left 1 1, Nat.le_add_left 2 1⟩
theorem EncodedLength.res0A : EncodedLength.Statement .res0A :=
  ⟨Nat.le_add_left 1 1, Nat.le_add_left 2 1⟩
theorem EncodedLength.res1B : EncodedLength.Statement .res1B :=
  ⟨Nat.le_add_left 1 1, Nat.le_add_left 2 1⟩
theorem EncodedLength.res1C : EncodedLength.Statement .res1C :=
  ⟨Nat.le_add_left 1 1, Nat.le_add_left 2 1⟩
theorem EncodedLength.res1D : EncodedLength.Statement .res1D :=
  ⟨Nat.le_add_left 1 1, Nat.le_add_left 2 1⟩
theorem EncodedLength.res1E : EncodedLength.Statement .res1E :=
  ⟨Nat.le_add_left 1 1, Nat.le_add_left 2 1⟩
theorem EncodedLength.res1H : EncodedLength.Statement .res1H :=
  ⟨Nat.le_add_left 1 1, Nat.le_add_left 2 1⟩
theorem EncodedLength.res1L : EncodedLength.Statement .res1L :=
  ⟨Nat.le_add_left 1 1, Nat.le_add_left 2 1⟩
theorem EncodedLength.res1AtHL : EncodedLength.Statement .res1AtHL :=
  ⟨Nat.le_add_left 1 1, Nat.le_add_left 2 1⟩
theorem EncodedLength.res1A : EncodedLength.Statement .res1A :=
  ⟨Nat.le_add_left 1 1, Nat.le_add_left 2 1⟩
theorem EncodedLength.res2B : EncodedLength.Statement .res2B :=
  ⟨Nat.le_add_left 1 1, Nat.le_add_left 2 1⟩
theorem EncodedLength.res2C : EncodedLength.Statement .res2C :=
  ⟨Nat.le_add_left 1 1, Nat.le_add_left 2 1⟩
theorem EncodedLength.res2D : EncodedLength.Statement .res2D :=
  ⟨Nat.le_add_left 1 1, Nat.le_add_left 2 1⟩
theorem EncodedLength.res2E : EncodedLength.Statement .res2E :=
  ⟨Nat.le_add_left 1 1, Nat.le_add_left 2 1⟩
theorem EncodedLength.res2H : EncodedLength.Statement .res2H :=
  ⟨Nat.le_add_left 1 1, Nat.le_add_left 2 1⟩
theorem EncodedLength.res2L : EncodedLength.Statement .res2L :=
  ⟨Nat.le_add_left 1 1, Nat.le_add_left 2 1⟩
theorem EncodedLength.res2AtHL : EncodedLength.Statement .res2AtHL :=
  ⟨Nat.le_add_left 1 1, Nat.le_add_left 2 1⟩
theorem EncodedLength.res2A : EncodedLength.Statement .res2A :=
  ⟨Nat.le_add_left 1 1, Nat.le_add_left 2 1⟩
theorem EncodedLength.res3B : EncodedLength.Statement .res3B :=
  ⟨Nat.le_add_left 1 1, Nat.le_add_left 2 1⟩
theorem EncodedLength.res3C : EncodedLength.Statement .res3C :=
  ⟨Nat.le_add_left 1 1, Nat.le_add_left 2 1⟩
theorem EncodedLength.res3D : EncodedLength.Statement .res3D :=
  ⟨Nat.le_add_left 1 1, Nat.le_add_left 2 1⟩
theorem EncodedLength.res3E : EncodedLength.Statement .res3E :=
  ⟨Nat.le_add_left 1 1, Nat.le_add_left 2 1⟩
theorem EncodedLength.res3H : EncodedLength.Statement .res3H :=
  ⟨Nat.le_add_left 1 1, Nat.le_add_left 2 1⟩
theorem EncodedLength.res3L : EncodedLength.Statement .res3L :=
  ⟨Nat.le_add_left 1 1, Nat.le_add_left 2 1⟩
theorem EncodedLength.res3AtHL : EncodedLength.Statement .res3AtHL :=
  ⟨Nat.le_add_left 1 1, Nat.le_add_left 2 1⟩
theorem EncodedLength.res3A : EncodedLength.Statement .res3A :=
  ⟨Nat.le_add_left 1 1, Nat.le_add_left 2 1⟩
theorem EncodedLength.res4B : EncodedLength.Statement .res4B :=
  ⟨Nat.le_add_left 1 1, Nat.le_add_left 2 1⟩
theorem EncodedLength.res4C : EncodedLength.Statement .res4C :=
  ⟨Nat.le_add_left 1 1, Nat.le_add_left 2 1⟩
theorem EncodedLength.res4D : EncodedLength.Statement .res4D :=
  ⟨Nat.le_add_left 1 1, Nat.le_add_left 2 1⟩
theorem EncodedLength.res4E : EncodedLength.Statement .res4E :=
  ⟨Nat.le_add_left 1 1, Nat.le_add_left 2 1⟩
theorem EncodedLength.res4H : EncodedLength.Statement .res4H :=
  ⟨Nat.le_add_left 1 1, Nat.le_add_left 2 1⟩
theorem EncodedLength.res4L : EncodedLength.Statement .res4L :=
  ⟨Nat.le_add_left 1 1, Nat.le_add_left 2 1⟩
theorem EncodedLength.res4AtHL : EncodedLength.Statement .res4AtHL :=
  ⟨Nat.le_add_left 1 1, Nat.le_add_left 2 1⟩
theorem EncodedLength.res4A : EncodedLength.Statement .res4A :=
  ⟨Nat.le_add_left 1 1, Nat.le_add_left 2 1⟩
theorem EncodedLength.res5B : EncodedLength.Statement .res5B :=
  ⟨Nat.le_add_left 1 1, Nat.le_add_left 2 1⟩
theorem EncodedLength.res5C : EncodedLength.Statement .res5C :=
  ⟨Nat.le_add_left 1 1, Nat.le_add_left 2 1⟩
theorem EncodedLength.res5D : EncodedLength.Statement .res5D :=
  ⟨Nat.le_add_left 1 1, Nat.le_add_left 2 1⟩
theorem EncodedLength.res5E : EncodedLength.Statement .res5E :=
  ⟨Nat.le_add_left 1 1, Nat.le_add_left 2 1⟩
theorem EncodedLength.res5H : EncodedLength.Statement .res5H :=
  ⟨Nat.le_add_left 1 1, Nat.le_add_left 2 1⟩
theorem EncodedLength.res5L : EncodedLength.Statement .res5L :=
  ⟨Nat.le_add_left 1 1, Nat.le_add_left 2 1⟩
theorem EncodedLength.res5AtHL : EncodedLength.Statement .res5AtHL :=
  ⟨Nat.le_add_left 1 1, Nat.le_add_left 2 1⟩
theorem EncodedLength.res5A : EncodedLength.Statement .res5A :=
  ⟨Nat.le_add_left 1 1, Nat.le_add_left 2 1⟩
theorem EncodedLength.res6B : EncodedLength.Statement .res6B :=
  ⟨Nat.le_add_left 1 1, Nat.le_add_left 2 1⟩
theorem EncodedLength.res6C : EncodedLength.Statement .res6C :=
  ⟨Nat.le_add_left 1 1, Nat.le_add_left 2 1⟩
theorem EncodedLength.res6D : EncodedLength.Statement .res6D :=
  ⟨Nat.le_add_left 1 1, Nat.le_add_left 2 1⟩
theorem EncodedLength.res6E : EncodedLength.Statement .res6E :=
  ⟨Nat.le_add_left 1 1, Nat.le_add_left 2 1⟩
theorem EncodedLength.res6H : EncodedLength.Statement .res6H :=
  ⟨Nat.le_add_left 1 1, Nat.le_add_left 2 1⟩
theorem EncodedLength.res6L : EncodedLength.Statement .res6L :=
  ⟨Nat.le_add_left 1 1, Nat.le_add_left 2 1⟩
theorem EncodedLength.res6AtHL : EncodedLength.Statement .res6AtHL :=
  ⟨Nat.le_add_left 1 1, Nat.le_add_left 2 1⟩
theorem EncodedLength.res6A : EncodedLength.Statement .res6A :=
  ⟨Nat.le_add_left 1 1, Nat.le_add_left 2 1⟩
theorem EncodedLength.res7B : EncodedLength.Statement .res7B :=
  ⟨Nat.le_add_left 1 1, Nat.le_add_left 2 1⟩
theorem EncodedLength.res7C : EncodedLength.Statement .res7C :=
  ⟨Nat.le_add_left 1 1, Nat.le_add_left 2 1⟩
theorem EncodedLength.res7D : EncodedLength.Statement .res7D :=
  ⟨Nat.le_add_left 1 1, Nat.le_add_left 2 1⟩
theorem EncodedLength.res7E : EncodedLength.Statement .res7E :=
  ⟨Nat.le_add_left 1 1, Nat.le_add_left 2 1⟩
theorem EncodedLength.res7H : EncodedLength.Statement .res7H :=
  ⟨Nat.le_add_left 1 1, Nat.le_add_left 2 1⟩
theorem EncodedLength.res7L : EncodedLength.Statement .res7L :=
  ⟨Nat.le_add_left 1 1, Nat.le_add_left 2 1⟩
theorem EncodedLength.res7AtHL : EncodedLength.Statement .res7AtHL :=
  ⟨Nat.le_add_left 1 1, Nat.le_add_left 2 1⟩
theorem EncodedLength.res7A : EncodedLength.Statement .res7A :=
  ⟨Nat.le_add_left 1 1, Nat.le_add_left 2 1⟩
theorem EncodedLength.set0B : EncodedLength.Statement .set0B :=
  ⟨Nat.le_add_left 1 1, Nat.le_add_left 2 1⟩
theorem EncodedLength.set0C : EncodedLength.Statement .set0C :=
  ⟨Nat.le_add_left 1 1, Nat.le_add_left 2 1⟩
theorem EncodedLength.set0D : EncodedLength.Statement .set0D :=
  ⟨Nat.le_add_left 1 1, Nat.le_add_left 2 1⟩
theorem EncodedLength.set0E : EncodedLength.Statement .set0E :=
  ⟨Nat.le_add_left 1 1, Nat.le_add_left 2 1⟩
theorem EncodedLength.set0H : EncodedLength.Statement .set0H :=
  ⟨Nat.le_add_left 1 1, Nat.le_add_left 2 1⟩
theorem EncodedLength.set0L : EncodedLength.Statement .set0L :=
  ⟨Nat.le_add_left 1 1, Nat.le_add_left 2 1⟩
theorem EncodedLength.set0AtHL : EncodedLength.Statement .set0AtHL :=
  ⟨Nat.le_add_left 1 1, Nat.le_add_left 2 1⟩
theorem EncodedLength.set0A : EncodedLength.Statement .set0A :=
  ⟨Nat.le_add_left 1 1, Nat.le_add_left 2 1⟩
theorem EncodedLength.set1B : EncodedLength.Statement .set1B :=
  ⟨Nat.le_add_left 1 1, Nat.le_add_left 2 1⟩
theorem EncodedLength.set1C : EncodedLength.Statement .set1C :=
  ⟨Nat.le_add_left 1 1, Nat.le_add_left 2 1⟩
theorem EncodedLength.set1D : EncodedLength.Statement .set1D :=
  ⟨Nat.le_add_left 1 1, Nat.le_add_left 2 1⟩
theorem EncodedLength.set1E : EncodedLength.Statement .set1E :=
  ⟨Nat.le_add_left 1 1, Nat.le_add_left 2 1⟩
theorem EncodedLength.set1H : EncodedLength.Statement .set1H :=
  ⟨Nat.le_add_left 1 1, Nat.le_add_left 2 1⟩
theorem EncodedLength.set1L : EncodedLength.Statement .set1L :=
  ⟨Nat.le_add_left 1 1, Nat.le_add_left 2 1⟩
theorem EncodedLength.set1AtHL : EncodedLength.Statement .set1AtHL :=
  ⟨Nat.le_add_left 1 1, Nat.le_add_left 2 1⟩
theorem EncodedLength.set1A : EncodedLength.Statement .set1A :=
  ⟨Nat.le_add_left 1 1, Nat.le_add_left 2 1⟩
theorem EncodedLength.set2B : EncodedLength.Statement .set2B :=
  ⟨Nat.le_add_left 1 1, Nat.le_add_left 2 1⟩
theorem EncodedLength.set2C : EncodedLength.Statement .set2C :=
  ⟨Nat.le_add_left 1 1, Nat.le_add_left 2 1⟩
theorem EncodedLength.set2D : EncodedLength.Statement .set2D :=
  ⟨Nat.le_add_left 1 1, Nat.le_add_left 2 1⟩
theorem EncodedLength.set2E : EncodedLength.Statement .set2E :=
  ⟨Nat.le_add_left 1 1, Nat.le_add_left 2 1⟩
theorem EncodedLength.set2H : EncodedLength.Statement .set2H :=
  ⟨Nat.le_add_left 1 1, Nat.le_add_left 2 1⟩
theorem EncodedLength.set2L : EncodedLength.Statement .set2L :=
  ⟨Nat.le_add_left 1 1, Nat.le_add_left 2 1⟩
theorem EncodedLength.set2AtHL : EncodedLength.Statement .set2AtHL :=
  ⟨Nat.le_add_left 1 1, Nat.le_add_left 2 1⟩
theorem EncodedLength.set2A : EncodedLength.Statement .set2A :=
  ⟨Nat.le_add_left 1 1, Nat.le_add_left 2 1⟩
theorem EncodedLength.set3B : EncodedLength.Statement .set3B :=
  ⟨Nat.le_add_left 1 1, Nat.le_add_left 2 1⟩
theorem EncodedLength.set3C : EncodedLength.Statement .set3C :=
  ⟨Nat.le_add_left 1 1, Nat.le_add_left 2 1⟩
theorem EncodedLength.set3D : EncodedLength.Statement .set3D :=
  ⟨Nat.le_add_left 1 1, Nat.le_add_left 2 1⟩
theorem EncodedLength.set3E : EncodedLength.Statement .set3E :=
  ⟨Nat.le_add_left 1 1, Nat.le_add_left 2 1⟩
theorem EncodedLength.set3H : EncodedLength.Statement .set3H :=
  ⟨Nat.le_add_left 1 1, Nat.le_add_left 2 1⟩
theorem EncodedLength.set3L : EncodedLength.Statement .set3L :=
  ⟨Nat.le_add_left 1 1, Nat.le_add_left 2 1⟩
theorem EncodedLength.set3AtHL : EncodedLength.Statement .set3AtHL :=
  ⟨Nat.le_add_left 1 1, Nat.le_add_left 2 1⟩
theorem EncodedLength.set3A : EncodedLength.Statement .set3A :=
  ⟨Nat.le_add_left 1 1, Nat.le_add_left 2 1⟩
theorem EncodedLength.set4B : EncodedLength.Statement .set4B :=
  ⟨Nat.le_add_left 1 1, Nat.le_add_left 2 1⟩
theorem EncodedLength.set4C : EncodedLength.Statement .set4C :=
  ⟨Nat.le_add_left 1 1, Nat.le_add_left 2 1⟩
theorem EncodedLength.set4D : EncodedLength.Statement .set4D :=
  ⟨Nat.le_add_left 1 1, Nat.le_add_left 2 1⟩
theorem EncodedLength.set4E : EncodedLength.Statement .set4E :=
  ⟨Nat.le_add_left 1 1, Nat.le_add_left 2 1⟩
theorem EncodedLength.set4H : EncodedLength.Statement .set4H :=
  ⟨Nat.le_add_left 1 1, Nat.le_add_left 2 1⟩
theorem EncodedLength.set4L : EncodedLength.Statement .set4L :=
  ⟨Nat.le_add_left 1 1, Nat.le_add_left 2 1⟩
theorem EncodedLength.set4AtHL : EncodedLength.Statement .set4AtHL :=
  ⟨Nat.le_add_left 1 1, Nat.le_add_left 2 1⟩
theorem EncodedLength.set4A : EncodedLength.Statement .set4A :=
  ⟨Nat.le_add_left 1 1, Nat.le_add_left 2 1⟩
theorem EncodedLength.set5B : EncodedLength.Statement .set5B :=
  ⟨Nat.le_add_left 1 1, Nat.le_add_left 2 1⟩
theorem EncodedLength.set5C : EncodedLength.Statement .set5C :=
  ⟨Nat.le_add_left 1 1, Nat.le_add_left 2 1⟩
theorem EncodedLength.set5D : EncodedLength.Statement .set5D :=
  ⟨Nat.le_add_left 1 1, Nat.le_add_left 2 1⟩
theorem EncodedLength.set5E : EncodedLength.Statement .set5E :=
  ⟨Nat.le_add_left 1 1, Nat.le_add_left 2 1⟩
theorem EncodedLength.set5H : EncodedLength.Statement .set5H :=
  ⟨Nat.le_add_left 1 1, Nat.le_add_left 2 1⟩
theorem EncodedLength.set5L : EncodedLength.Statement .set5L :=
  ⟨Nat.le_add_left 1 1, Nat.le_add_left 2 1⟩
theorem EncodedLength.set5AtHL : EncodedLength.Statement .set5AtHL :=
  ⟨Nat.le_add_left 1 1, Nat.le_add_left 2 1⟩
theorem EncodedLength.set5A : EncodedLength.Statement .set5A :=
  ⟨Nat.le_add_left 1 1, Nat.le_add_left 2 1⟩
theorem EncodedLength.set6B : EncodedLength.Statement .set6B :=
  ⟨Nat.le_add_left 1 1, Nat.le_add_left 2 1⟩
theorem EncodedLength.set6C : EncodedLength.Statement .set6C :=
  ⟨Nat.le_add_left 1 1, Nat.le_add_left 2 1⟩
theorem EncodedLength.set6D : EncodedLength.Statement .set6D :=
  ⟨Nat.le_add_left 1 1, Nat.le_add_left 2 1⟩
theorem EncodedLength.set6E : EncodedLength.Statement .set6E :=
  ⟨Nat.le_add_left 1 1, Nat.le_add_left 2 1⟩
theorem EncodedLength.set6H : EncodedLength.Statement .set6H :=
  ⟨Nat.le_add_left 1 1, Nat.le_add_left 2 1⟩
theorem EncodedLength.set6L : EncodedLength.Statement .set6L :=
  ⟨Nat.le_add_left 1 1, Nat.le_add_left 2 1⟩
theorem EncodedLength.set6AtHL : EncodedLength.Statement .set6AtHL :=
  ⟨Nat.le_add_left 1 1, Nat.le_add_left 2 1⟩
theorem EncodedLength.set6A : EncodedLength.Statement .set6A :=
  ⟨Nat.le_add_left 1 1, Nat.le_add_left 2 1⟩
theorem EncodedLength.set7B : EncodedLength.Statement .set7B :=
  ⟨Nat.le_add_left 1 1, Nat.le_add_left 2 1⟩
theorem EncodedLength.set7C : EncodedLength.Statement .set7C :=
  ⟨Nat.le_add_left 1 1, Nat.le_add_left 2 1⟩
theorem EncodedLength.set7D : EncodedLength.Statement .set7D :=
  ⟨Nat.le_add_left 1 1, Nat.le_add_left 2 1⟩
theorem EncodedLength.set7E : EncodedLength.Statement .set7E :=
  ⟨Nat.le_add_left 1 1, Nat.le_add_left 2 1⟩
theorem EncodedLength.set7H : EncodedLength.Statement .set7H :=
  ⟨Nat.le_add_left 1 1, Nat.le_add_left 2 1⟩
theorem EncodedLength.set7L : EncodedLength.Statement .set7L :=
  ⟨Nat.le_add_left 1 1, Nat.le_add_left 2 1⟩
theorem EncodedLength.set7AtHL : EncodedLength.Statement .set7AtHL :=
  ⟨Nat.le_add_left 1 1, Nat.le_add_left 2 1⟩
theorem EncodedLength.set7A : EncodedLength.Statement .set7A :=
  ⟨Nat.le_add_left 1 1, Nat.le_add_left 2 1⟩

end Sys2Proof.Laws
end

