-- ==== Sys2Proof/Laws/Video.lean ====
section
/-! SUPPORT. The frame render pixel by pixel, and what a tick leaves of every byte. -/

namespace Sys2Proof.Machine

/-- Every key of the rendered range reads as its background pixel, every other key as index 0. -/
theorem cellGet_renderFrom (bases : BackgroundBases) (m : List Host.Cell) (k n j : Nat) :
    cellGet 0 (renderFrom bases m k n) j =
      if k ≤ j ∧ j < k + n then backgroundPixel bases m (j / 256) (j % 256) else 0 := by
  induction n generalizing k with
  | zero =>
    have : ¬ (k ≤ j ∧ j < k + 0) := by omega
    rw [if_neg this]
    rfl
  | succ n ih =>
    have hrest := ih (k + 1)
    rw [renderFrom]
    by_cases hj : k = j
    · subst hj
      have hout : ¬ (k + 1 ≤ k ∧ k < k + 1 + n) := by omega
      have hin : k ≤ k ∧ k < k + (n + 1) := by omega
      rw [if_neg hout] at hrest
      rw [if_pos hin]
      by_cases hp : backgroundPixel bases m (k / 256) (k % 256) = 0
      · simp only [hp, if_true]; exact hrest
      · simp only [hp, if_false, cellGet, if_true]
    · have hiff : (k + 1 ≤ j ∧ j < k + 1 + n) ↔ (k ≤ j ∧ j < k + (n + 1)) := by omega
      rw [if_congr hiff rfl rfl] at hrest
      by_cases hp : backgroundPixel bases m (k / 256) (k % 256) = 0
      · simp only [hp, if_true]; exact hrest
      · simp only [hp, if_false, cellGet, hj]; exact hrest

/-- The rendered cells are in canonical form. -/
theorem cellsWf_renderFrom (bases : BackgroundBases) (m : List Host.Cell) (k n bound : Nat)
    (h : k + n ≤ bound) :
    cellsWf 0 bound k (renderFrom bases m k n) = true := by
  induction n generalizing k with
  | zero => rfl
  | succ n ih =>
    have hrest := ih (k + 1) (by omega)
    rw [renderFrom]
    by_cases hp : backgroundPixel bases m (k / 256) (k % 256) = 0
    · simp only [hp, if_true]
      exact cellsWf_mono (Nat.le_succ k) hrest
    · simp only [hp, if_false, cellsWf, Bool.and_eq_true, decide_eq_true_eq]
      exact ⟨⟨⟨le_refl k, by omega⟩, hp⟩, hrest⟩

theorem FrameBuffer.wf_nil : FrameBuffer.wf [] = true := rfl

theorem FrameBuffer.wf_renderFrame (s : State) : FrameBuffer.wf s.renderFrame.fb = true :=
  cellsWf_renderFrom s.bgBases s.mem 0 pixelCount pixelCount (by omega)

variable (s : State)

theorem State.read8_raiseVBlank (vertical : Nat) (addr : Word) :
    (s.raiseVBlank vertical).read8 addr =
      if addr = Config.ifAddr ∧ s.prevVerticalClock ≤ Config.visibleLines ∧ vertical > Config.visibleLines
      then s.read8 Config.ifAddr ||| 0x01 else s.read8 addr := by
  unfold State.raiseVBlank
  split
  · next h => by_cases ha : addr = Config.ifAddr <;> simp [ha, h]
  · next h => simp [h]

theorem State.mem_renderOnWrap (vertical : Nat) : (s.renderOnWrap vertical).mem = s.mem := by
  unfold State.renderOnWrap State.renderFrame
  split <;> rfl

/-- Every byte after a tick with the display on: LY, STAT and IF as R273 to R275 say, all others as before. -/
theorem State.read8_displayOnTick (n : Nat) (addr : Word) :
    (s.displayOnTick n).read8 addr =
      let clock := (s.internalClock + n) % Config.frameClocks
      if addr = Config.ifAddr ∧ s.prevVerticalClock ≤ Config.visibleLines ∧ verticalOf clock > Config.visibleLines
      then s.read8 Config.ifAddr ||| 0x01
      else if addr = Config.statAddr
      then (s.read8 Config.statAddr &&& ~~~0x03) ||| displayMode (horizontalOf clock) (verticalOf clock)
      else if addr = Config.lyAddr then BitVec.ofNat 8 (verticalOf clock)
      else s.read8 addr := by
  set clock := (s.internalClock + n) % Config.frameClocks with hclock
  set moved : State := { s with displayOn := true, internalClock := clock } with hmoved
  have hshape : (s.displayOnTick n).read8 addr =
      (((moved.recordPosition (horizontalOf clock) (verticalOf clock)).raiseVBlank (verticalOf clock)).renderOnWrap
        (verticalOf clock)).read8 addr := rfl
  have hm : ∀ a, moved.read8 a = s.read8 a := fun _ => rfl
  rw [hshape, State.read8_congr (State.mem_renderOnWrap _ _), State.read8_raiseVBlank]
  have hp : (moved.recordPosition (horizontalOf clock) (verticalOf clock)).prevVerticalClock = s.prevVerticalClock := rfl
  have hif : (moved.recordPosition (horizontalOf clock) (verticalOf clock)).read8 Config.ifAddr =
      s.read8 Config.ifAddr := by
    simp [State.recordPosition, hm]
  rw [hp, hif]
  by_cases hc : addr = Config.ifAddr ∧ s.prevVerticalClock ≤ Config.visibleLines ∧
      verticalOf clock > Config.visibleLines
  · simp only [hc]; simp
  · rw [if_neg hc, if_neg hc]
    by_cases hs : addr = Config.statAddr
    · subst hs; simp [State.recordPosition, hm]
    · by_cases hl : addr = Config.lyAddr
      · subst hl; simp [State.recordPosition]
      · have hs' : ¬ addr = 0xFF41#16 := hs
        have hl' : ¬ addr = 0xFF44#16 := hl
        simp [State.recordPosition, hs', hl', hm]

/-- Raising VBlank writes memory only. -/
theorem State.raiseVBlank_eq (vertical : Nat) :
    s.raiseVBlank vertical = { s with mem := (s.raiseVBlank vertical).mem } := by
  unfold State.raiseVBlank
  split <;> rfl

/-- Rendering writes the pixel buffer and the render event only. -/
theorem State.renderOnWrap_eq (vertical : Nat) :
    s.renderOnWrap vertical =
      { s with fb := (s.renderOnWrap vertical).fb, frameEvent := (s.renderOnWrap vertical).frameEvent } := by
  unfold State.renderOnWrap
  split <;> rfl

/-- The fields a tick with the display on sets, and those it leaves. -/
theorem State.displayOnTick_eq (n : Nat) :
    let clock := (s.internalClock + n) % Config.frameClocks
    s.displayOnTick n = { s with
      displayOn := true, internalClock := clock, prevHorizontalClock := horizontalOf clock,
      prevVerticalClock := verticalOf clock, mem := (s.displayOnTick n).mem, fb := (s.displayOnTick n).fb,
      frameEvent := (s.displayOnTick n).frameEvent } := by
  intro clock
  simp only [State.displayOnTick]
  rw [State.renderOnWrap_eq, State.raiseVBlank_eq]
  rfl

/-- Whether a tick with the display on renders a frame. -/
theorem State.renderOnWrap_fb (vertical : Nat) :
    ((s.renderOnWrap vertical).fb, (s.renderOnWrap vertical).frameEvent) =
      if s.prevVerticalClock > Config.visibleLines ∧ vertical < Config.visibleLines
      then (s.renderFrame.fb, true) else (s.fb, s.frameEvent) := by
  unfold State.renderOnWrap
  split <;> rfl

end Sys2Proof.Machine
end

