-- ==== Sys2Proof/Laws/Step.lean ====
section
/-! SUPPORT. What a step can do, said once. -/

namespace Sys2Proof.Machine

/-- The inversion of `step`: a step that answers a next state had a Running or Halted machine and a host that lets it run;
it was an idle slot, or the undefined-instruction exception, or an instruction with the clock, the tick and the host's
turn after it. -/
theorem step_cases {s t : State} (h : step s = .next t) :
    s.running = true ∧ (s.runState = .running ∨ s.runState = .halted) ∧
    let checked := s.beginStep.interruptCheck
    (checked.runState = .halted ∧ t = checked.finishStep s.dispatches Config.haltIdleT) ∨
    (checked.runState = .running ∧ ∃ u, exec checked.fetch checked = .next u ∧
      ((u.runState = .faulted ∧ t = u.hostTurn) ∨ (u.runState ≠ .faulted ∧ t = u.finishStep s.dispatches u.cycles))) := by
  have hactive : ∀ {r : RunState}, s.running = true → s.runState = r → s.activeStep = .next t →
      let checked := s.beginStep.interruptCheck
      (checked.runState = .halted ∧ t = checked.finishStep s.dispatches Config.haltIdleT) ∨
      (checked.runState = .running ∧ ∃ u, exec checked.fetch checked = .next u ∧
        ((u.runState = .faulted ∧ t = u.hostTurn) ∨
          (u.runState ≠ .faulted ∧ t = u.finishStep s.dispatches u.cycles))) := by
    intro r _ _ ha
    simp only [State.activeStep] at ha
    split at ha
    · next hr =>
      refine .inr ⟨hr, ?_⟩
      simp only [State.runInstruction] at ha
      split at ha
      · next u hu =>
        refine ⟨u, hu, ?_⟩
        split at ha
        · next hf => exact .inl ⟨hf, by injection ha with e; exact e.symm⟩
        · next hf => exact .inr ⟨hf, by injection ha with e; exact e.symm⟩
      · cases ha
      · cases ha
    · next hr => exact .inl ⟨hr, by injection ha with e; exact e.symm⟩
    · cases ha
    · cases ha
  simp only [step, schedulerStep] at h
  split at h
  · next hrun =>
    split at h
    · next hr => exact ⟨hrun, .inl hr, hactive hrun hr h⟩
    · next hr => exact ⟨hrun, .inr hr, hactive hrun hr h⟩
    · cases h
    · cases h
  · cases h

/-! ## The parts of a step that are not the instruction -/

variable (s : State)

@[simp] theorem State.read8_beginStep (addr : Word) : s.beginStep.read8 addr = s.read8 addr := rfl
@[simp] theorem State.read8_accumulate (t : Nat) (addr : Word) : (s.accumulate t).read8 addr = s.read8 addr := rfl
@[simp] theorem State.pending_beginStep : s.beginStep.pending = s.pending := rfl
@[simp] theorem State.dispatches_beginStep : s.beginStep.dispatches = s.dispatches := rfl

theorem State.hostTurn_nil (h : s.hostInput = []) : s.hostTurn = s := by simp [State.hostTurn, h]

/-- Every byte after the host's collection of input. -/
@[simp] theorem State.read8_collectInput (joyp : Option Byte) (raiseJoypad : Bool) (addr : Word) :
    (s.collectInput joyp raiseJoypad).read8 addr =
      if addr = Config.ifAddr then (if raiseJoypad then s.read8 Config.ifAddr ||| 0x10 else s.read8 Config.ifAddr)
      else if addr = Config.joypAddr then joyp.getD (s.read8 Config.joypAddr)
      else s.read8 addr := by
  by_cases hi : addr = Config.ifAddr
  · subst hi
    cases joyp <;> cases raiseJoypad <;> simp [State.collectInput]
  · have hi' : ¬ addr = 0xFF0F#16 := hi
    by_cases hj : addr = Config.joypAddr
    · subst hj
      cases joyp <;> cases raiseJoypad <;> simp [State.collectInput]
    · have hj' : ¬ addr = 0xFF00#16 := hj
      cases joyp <;> cases raiseJoypad <;> simp [State.collectInput, hi', hj']

/-- Collecting input writes memory only. -/
theorem State.collectInput_eq (joyp : Option Byte) (raiseJoypad : Bool) :
    s.collectInput joyp raiseJoypad = { s with mem := (s.collectInput joyp raiseJoypad).mem } := by
  cases joyp <;> cases raiseJoypad <;> rfl

/-- Collecting input keeps memory canonical. -/
theorem State.wf_collectInput (joyp : Option Byte) (raiseJoypad : Bool) (h : Memory.wf s.mem = true) :
    Memory.wf (s.collectInput joyp raiseJoypad).mem = true := by
  have hw := State.wf_write8 (s := s) Config.joypAddr
  cases joyp with
  | none => cases raiseJoypad with
    | false => exact h
    | true => exact State.wf_setFlag _ _ h
  | some v => cases raiseJoypad with
    | false => exact hw v h
    | true => exact State.wf_setFlag _ _ (hw v h)

theorem dispatchCost_eq_zero (d : Bool) : dispatchCost d = 0 := by cases d <;> rfl

end Sys2Proof.Machine
end

