-- ==== Sys2Proof/Tests/Slice0.lean ====
section
/-! SUPPORT. The model's own tests: every word of the two opcode tables decoded, the test vectors of
spec/95_test_vectors.md, and a witness for every statement that has hypotheses. Expected results come from the spec. -/

namespace Sys2Proof.Machine.Tests

-- One theorem after another: elaborating all of these at once takes a thread each.
set_option Elab.async false

/-! ## Well-formedness: the one check there is, and the term it refuses -/

theorem test_wellFormed_refuses_the_prefix_alone : Instr.wellFormed (.prefixCB 0x00) = false := by decide

theorem test_wellFormed_accepts_any_padding_byte : Instr.wellFormed (.stop 0xFF) = true := by decide

/-! ## Decoding: the words of spec/30_encoding.md, sixteen rows of the tables at a time -/

/-- The bytes decode to the instruction, nothing left over, and the instruction encodes to the bytes. -/
def reads (row : List Byte × Instr) : Bool :=
  match decode row.1 with
  | .ok (i, []) => i == row.2 && encode row.2 == row.1
  | _ => false

def rows_base_00 : List (List Byte × Instr) :=
  [([0b00000000], .nop), ([0b00000001, 0x92, 0x34], .ldBCD16 0x3492),
   ([0b00000010], .ldAtBCA), ([0b00000011], .incBC),
   ([0b00000100], .incB), ([0b00000101], .decB),
   ([0b00000110, 0x92], .ldBD8 0x92), ([0b00000111], .rlca),
   ([0b00001000, 0x92, 0x34], .ldAtA16SP 0x3492), ([0b00001001], .addHLBC),
   ([0b00001010], .ldAAtBC), ([0b00001011], .decBC),
   ([0b00001100], .incC), ([0b00001101], .decC),
   ([0b00001110, 0x92], .ldCD8 0x92), ([0b00001111], .rrca)]

theorem test_decode_base_00 : rows_base_00.all reads = true := by decide +kernel

def rows_base_10 : List (List Byte × Instr) :=
  [([0b00010000, 0x92], .stop 0x92), ([0b00010001, 0x92, 0x34], .ldDED16 0x3492),
   ([0b00010010], .ldAtDEA), ([0b00010011], .incDE),
   ([0b00010100], .incD), ([0b00010101], .decD),
   ([0b00010110, 0x92], .ldDD8 0x92), ([0b00010111], .rla),
   ([0b00011000, 0x92], .jrE8 0x92), ([0b00011001], .addHLDE),
   ([0b00011010], .ldAAtDE), ([0b00011011], .decDE),
   ([0b00011100], .incE), ([0b00011101], .decE),
   ([0b00011110, 0x92], .ldED8 0x92), ([0b00011111], .rra)]

theorem test_decode_base_10 : rows_base_10.all reads = true := by decide +kernel

def rows_base_20 : List (List Byte × Instr) :=
  [([0b00100000, 0x92], .jrNZE8 0x92), ([0b00100001, 0x92, 0x34], .ldHLD16 0x3492),
   ([0b00100010], .ldAtHLIncA), ([0b00100011], .incHL),
   ([0b00100100], .incH), ([0b00100101], .decH),
   ([0b00100110, 0x92], .ldHD8 0x92), ([0b00100111], .daa),
   ([0b00101000, 0x92], .jrZE8 0x92), ([0b00101001], .addHLHL),
   ([0b00101010], .ldAAtHLInc), ([0b00101011], .decHL),
   ([0b00101100], .incL), ([0b00101101], .decL),
   ([0b00101110, 0x92], .ldLD8 0x92), ([0b00101111], .cpl)]

theorem test_decode_base_20 : rows_base_20.all reads = true := by decide +kernel

def rows_base_30 : List (List Byte × Instr) :=
  [([0b00110000, 0x92], .jrNCE8 0x92), ([0b00110001, 0x92, 0x34], .ldSPD16 0x3492),
   ([0b00110010], .ldAtHLDecA), ([0b00110011], .incSP),
   ([0b00110100], .incAtHL), ([0b00110101], .decAtHL),
   ([0b00110110, 0x92], .ldAtHLD8 0x92), ([0b00110111], .scf),
   ([0b00111000, 0x92], .jrCE8 0x92), ([0b00111001], .addHLSP),
   ([0b00111010], .ldAAtHLDec), ([0b00111011], .decSP),
   ([0b00111100], .incA), ([0b00111101], .decA),
   ([0b00111110, 0x92], .ldAD8 0x92), ([0b00111111], .ccf)]

theorem test_decode_base_30 : rows_base_30.all reads = true := by decide +kernel

def rows_base_40 : List (List Byte × Instr) :=
  [([0b01000000], .ldBB), ([0b01000001], .ldBC),
   ([0b01000010], .ldBD), ([0b01000011], .ldBE),
   ([0b01000100], .ldBH), ([0b01000101], .ldBL),
   ([0b01000110], .ldBAtHL), ([0b01000111], .ldBA),
   ([0b01001000], .ldCB), ([0b01001001], .ldCC),
   ([0b01001010], .ldCD), ([0b01001011], .ldCE),
   ([0b01001100], .ldCH), ([0b01001101], .ldCL),
   ([0b01001110], .ldCAtHL), ([0b01001111], .ldCA)]

theorem test_decode_base_40 : rows_base_40.all reads = true := by decide +kernel

def rows_base_50 : List (List Byte × Instr) :=
  [([0b01010000], .ldDB), ([0b01010001], .ldDC),
   ([0b01010010], .ldDD), ([0b01010011], .ldDE),
   ([0b01010100], .ldDH), ([0b01010101], .ldDL),
   ([0b01010110], .ldDAtHL), ([0b01010111], .ldDA),
   ([0b01011000], .ldEB), ([0b01011001], .ldEC),
   ([0b01011010], .ldED), ([0b01011011], .ldEE),
   ([0b01011100], .ldEH), ([0b01011101], .ldEL),
   ([0b01011110], .ldEAtHL), ([0b01011111], .ldEA)]

theorem test_decode_base_50 : rows_base_50.all reads = true := by decide +kernel

def rows_base_60 : List (List Byte × Instr) :=
  [([0b01100000], .ldHB), ([0b01100001], .ldHC),
   ([0b01100010], .ldHD), ([0b01100011], .ldHE),
   ([0b01100100], .ldHH), ([0b01100101], .ldHL),
   ([0b01100110], .ldHAtHL), ([0b01100111], .ldHA),
   ([0b01101000], .ldLB), ([0b01101001], .ldLC),
   ([0b01101010], .ldLD), ([0b01101011], .ldLE),
   ([0b01101100], .ldLH), ([0b01101101], .ldLL),
   ([0b01101110], .ldLAtHL), ([0b01101111], .ldLA)]

theorem test_decode_base_60 : rows_base_60.all reads = true := by decide +kernel

def rows_base_70 : List (List Byte × Instr) :=
  [([0b01110000], .ldAtHLB), ([0b01110001], .ldAtHLC),
   ([0b01110010], .ldAtHLD), ([0b01110011], .ldAtHLE),
   ([0b01110100], .ldAtHLH), ([0b01110101], .ldAtHLL),
   ([0b01110110], .halt), ([0b01110111], .ldAtHLA),
   ([0b01111000], .ldAB), ([0b01111001], .ldAC),
   ([0b01111010], .ldAD), ([0b01111011], .ldAE),
   ([0b01111100], .ldAH), ([0b01111101], .ldAL),
   ([0b01111110], .ldAAtHL), ([0b01111111], .ldAA)]

theorem test_decode_base_70 : rows_base_70.all reads = true := by decide +kernel

def rows_base_80 : List (List Byte × Instr) :=
  [([0b10000000], .addAB), ([0b10000001], .addAC),
   ([0b10000010], .addAD), ([0b10000011], .addAE),
   ([0b10000100], .addAH), ([0b10000101], .addAL),
   ([0b10000110], .addAAtHL), ([0b10000111], .addAA),
   ([0b10001000], .adcAB), ([0b10001001], .adcAC),
   ([0b10001010], .adcAD), ([0b10001011], .adcAE),
   ([0b10001100], .adcAH), ([0b10001101], .adcAL),
   ([0b10001110], .adcAAtHL), ([0b10001111], .adcAA)]

theorem test_decode_base_80 : rows_base_80.all reads = true := by decide +kernel

def rows_base_90 : List (List Byte × Instr) :=
  [([0b10010000], .subB), ([0b10010001], .subC),
   ([0b10010010], .subD), ([0b10010011], .subE),
   ([0b10010100], .subH), ([0b10010101], .subL),
   ([0b10010110], .subAtHL), ([0b10010111], .subA),
   ([0b10011000], .sbcAB), ([0b10011001], .sbcAC),
   ([0b10011010], .sbcAD), ([0b10011011], .sbcAE),
   ([0b10011100], .sbcAH), ([0b10011101], .sbcAL),
   ([0b10011110], .sbcAAtHL), ([0b10011111], .sbcAA)]

theorem test_decode_base_90 : rows_base_90.all reads = true := by decide +kernel

def rows_base_A0 : List (List Byte × Instr) :=
  [([0b10100000], .andB), ([0b10100001], .andC),
   ([0b10100010], .andD), ([0b10100011], .andE),
   ([0b10100100], .andH), ([0b10100101], .andL),
   ([0b10100110], .andAtHL), ([0b10100111], .andA),
   ([0b10101000], .xorB), ([0b10101001], .xorC),
   ([0b10101010], .xorD), ([0b10101011], .xorE),
   ([0b10101100], .xorH), ([0b10101101], .xorL),
   ([0b10101110], .xorAtHL), ([0b10101111], .xorA)]

theorem test_decode_base_A0 : rows_base_A0.all reads = true := by decide +kernel

def rows_base_B0 : List (List Byte × Instr) :=
  [([0b10110000], .orB), ([0b10110001], .orC),
   ([0b10110010], .orD), ([0b10110011], .orE),
   ([0b10110100], .orH), ([0b10110101], .orL),
   ([0b10110110], .orAtHL), ([0b10110111], .orA),
   ([0b10111000], .cpB), ([0b10111001], .cpC),
   ([0b10111010], .cpD), ([0b10111011], .cpE),
   ([0b10111100], .cpH), ([0b10111101], .cpL),
   ([0b10111110], .cpAtHL), ([0b10111111], .cpA)]

theorem test_decode_base_B0 : rows_base_B0.all reads = true := by decide +kernel

def rows_base_C0 : List (List Byte × Instr) :=
  [([0b11000000], .retNZ), ([0b11000001], .popBC),
   ([0b11000010, 0x92, 0x34], .jpNZA16 0x3492), ([0b11000011, 0x92, 0x34], .jpA16 0x3492),
   ([0b11000100, 0x92, 0x34], .callNZA16 0x3492), ([0b11000101], .pushBC),
   ([0b11000110, 0x92], .addAD8 0x92), ([0b11000111], .rst00),
   ([0b11001000], .retZ), ([0b11001001], .ret),
   ([0b11001010, 0x92, 0x34], .jpZA16 0x3492), ([0b11001100, 0x92, 0x34], .callZA16 0x3492),
   ([0b11001101, 0x92, 0x34], .callA16 0x3492), ([0b11001110, 0x92], .adcAD8 0x92),
   ([0b11001111], .rst08)]

theorem test_decode_base_C0 : rows_base_C0.all reads = true := by decide +kernel

def rows_base_D0 : List (List Byte × Instr) :=
  [([0b11010000], .retNC), ([0b11010001], .popDE),
   ([0b11010010, 0x92, 0x34], .jpNCA16 0x3492), ([0b11010011], .undefD3),
   ([0b11010100, 0x92, 0x34], .callNCA16 0x3492), ([0b11010101], .pushDE),
   ([0b11010110, 0x92], .subD8 0x92), ([0b11010111], .rst10),
   ([0b11011000], .retC), ([0b11011001], .reti),
   ([0b11011010, 0x92, 0x34], .jpCA16 0x3492), ([0b11011011], .undefDB),
   ([0b11011100, 0x92, 0x34], .callCA16 0x3492), ([0b11011101], .undefDD),
   ([0b11011110, 0x92], .sbcAD8 0x92), ([0b11011111], .rst18)]

theorem test_decode_base_D0 : rows_base_D0.all reads = true := by decide +kernel

def rows_base_E0 : List (List Byte × Instr) :=
  [([0b11100000, 0x92], .ldhAtA8A 0x92), ([0b11100001], .popHL),
   ([0b11100010], .ldAtCA), ([0b11100011], .undefE3),
   ([0b11100100], .undefE4), ([0b11100101], .pushHL),
   ([0b11100110, 0x92], .andD8 0x92), ([0b11100111], .rst20),
   ([0b11101000, 0x92], .addSPE8 0x92), ([0b11101001], .jpAtHL),
   ([0b11101010, 0x92, 0x34], .ldAtA16A 0x3492), ([0b11101011], .undefEB),
   ([0b11101100], .undefEC), ([0b11101101], .undefED),
   ([0b11101110, 0x92], .xorD8 0x92), ([0b11101111], .rst28)]

theorem test_decode_base_E0 : rows_base_E0.all reads = true := by decide +kernel

def rows_base_F0 : List (List Byte × Instr) :=
  [([0b11110000, 0x92], .ldhAAtA8 0x92), ([0b11110001], .popAF),
   ([0b11110010], .ldAAtC), ([0b11110011], .di),
   ([0b11110100], .undefF4), ([0b11110101], .pushAF),
   ([0b11110110, 0x92], .orD8 0x92), ([0b11110111], .rst30),
   ([0b11111000, 0x92], .ldHLSPE8 0x92), ([0b11111001], .ldSPHL),
   ([0b11111010, 0x92, 0x34], .ldAAtA16 0x3492), ([0b11111011], .ei),
   ([0b11111100], .undefFC), ([0b11111101], .undefFD),
   ([0b11111110, 0x92], .cpD8 0x92), ([0b11111111], .rst38)]

theorem test_decode_base_F0 : rows_base_F0.all reads = true := by decide +kernel

def rows_ext_00 : List (List Byte × Instr) :=
  [([0b11001011, 0b00000000], .rlcB), ([0b11001011, 0b00000001], .rlcC),
   ([0b11001011, 0b00000010], .rlcD), ([0b11001011, 0b00000011], .rlcE),
   ([0b11001011, 0b00000100], .rlcH), ([0b11001011, 0b00000101], .rlcL),
   ([0b11001011, 0b00000110], .rlcAtHL), ([0b11001011, 0b00000111], .rlcA),
   ([0b11001011, 0b00001000], .rrcB), ([0b11001011, 0b00001001], .rrcC),
   ([0b11001011, 0b00001010], .rrcD), ([0b11001011, 0b00001011], .rrcE),
   ([0b11001011, 0b00001100], .rrcH), ([0b11001011, 0b00001101], .rrcL),
   ([0b11001011, 0b00001110], .rrcAtHL), ([0b11001011, 0b00001111], .rrcA)]

theorem test_decode_ext_00 : rows_ext_00.all reads = true := by decide +kernel

def rows_ext_10 : List (List Byte × Instr) :=
  [([0b11001011, 0b00010000], .rlB), ([0b11001011, 0b00010001], .rlC),
   ([0b11001011, 0b00010010], .rlD), ([0b11001011, 0b00010011], .rlE),
   ([0b11001011, 0b00010100], .rlH), ([0b11001011, 0b00010101], .rlL),
   ([0b11001011, 0b00010110], .rlAtHL), ([0b11001011, 0b00010111], .rlA),
   ([0b11001011, 0b00011000], .rrB), ([0b11001011, 0b00011001], .rrC),
   ([0b11001011, 0b00011010], .rrD), ([0b11001011, 0b00011011], .rrE),
   ([0b11001011, 0b00011100], .rrH), ([0b11001011, 0b00011101], .rrL),
   ([0b11001011, 0b00011110], .rrAtHL), ([0b11001011, 0b00011111], .rrA)]

theorem test_decode_ext_10 : rows_ext_10.all reads = true := by decide +kernel

def rows_ext_20 : List (List Byte × Instr) :=
  [([0b11001011, 0b00100000], .slaB), ([0b11001011, 0b00100001], .slaC),
   ([0b11001011, 0b00100010], .slaD), ([0b11001011, 0b00100011], .slaE),
   ([0b11001011, 0b00100100], .slaH), ([0b11001011, 0b00100101], .slaL),
   ([0b11001011, 0b00100110], .slaAtHL), ([0b11001011, 0b00100111], .slaA),
   ([0b11001011, 0b00101000], .sraB), ([0b11001011, 0b00101001], .sraC),
   ([0b11001011, 0b00101010], .sraD), ([0b11001011, 0b00101011], .sraE),
   ([0b11001011, 0b00101100], .sraH), ([0b11001011, 0b00101101], .sraL),
   ([0b11001011, 0b00101110], .sraAtHL), ([0b11001011, 0b00101111], .sraA)]

theorem test_decode_ext_20 : rows_ext_20.all reads = true := by decide +kernel

def rows_ext_30 : List (List Byte × Instr) :=
  [([0b11001011, 0b00110000], .swapB), ([0b11001011, 0b00110001], .swapC),
   ([0b11001011, 0b00110010], .swapD), ([0b11001011, 0b00110011], .swapE),
   ([0b11001011, 0b00110100], .swapH), ([0b11001011, 0b00110101], .swapL),
   ([0b11001011, 0b00110110], .swapAtHL), ([0b11001011, 0b00110111], .swapA),
   ([0b11001011, 0b00111000], .srlB), ([0b11001011, 0b00111001], .srlC),
   ([0b11001011, 0b00111010], .srlD), ([0b11001011, 0b00111011], .srlE),
   ([0b11001011, 0b00111100], .srlH), ([0b11001011, 0b00111101], .srlL),
   ([0b11001011, 0b00111110], .srlAtHL), ([0b11001011, 0b00111111], .srlA)]

theorem test_decode_ext_30 : rows_ext_30.all reads = true := by decide +kernel

def rows_ext_40 : List (List Byte × Instr) :=
  [([0b11001011, 0b01000000], .bit0B), ([0b11001011, 0b01000001], .bit0C),
   ([0b11001011, 0b01000010], .bit0D), ([0b11001011, 0b01000011], .bit0E),
   ([0b11001011, 0b01000100], .bit0H), ([0b11001011, 0b01000101], .bit0L),
   ([0b11001011, 0b01000110], .bit0AtHL), ([0b11001011, 0b01000111], .bit0A),
   ([0b11001011, 0b01001000], .bit1B), ([0b11001011, 0b01001001], .bit1C),
   ([0b11001011, 0b01001010], .bit1D), ([0b11001011, 0b01001011], .bit1E),
   ([0b11001011, 0b01001100], .bit1H), ([0b11001011, 0b01001101], .bit1L),
   ([0b11001011, 0b01001110], .bit1AtHL), ([0b11001011, 0b01001111], .bit1A)]

theorem test_decode_ext_40 : rows_ext_40.all reads = true := by decide +kernel

def rows_ext_50 : List (List Byte × Instr) :=
  [([0b11001011, 0b01010000], .bit2B), ([0b11001011, 0b01010001], .bit2C),
   ([0b11001011, 0b01010010], .bit2D), ([0b11001011, 0b01010011], .bit2E),
   ([0b11001011, 0b01010100], .bit2H), ([0b11001011, 0b01010101], .bit2L),
   ([0b11001011, 0b01010110], .bit2AtHL), ([0b11001011, 0b01010111], .bit2A),
   ([0b11001011, 0b01011000], .bit3B), ([0b11001011, 0b01011001], .bit3C),
   ([0b11001011, 0b01011010], .bit3D), ([0b11001011, 0b01011011], .bit3E),
   ([0b11001011, 0b01011100], .bit3H), ([0b11001011, 0b01011101], .bit3L),
   ([0b11001011, 0b01011110], .bit3AtHL), ([0b11001011, 0b01011111], .bit3A)]

theorem test_decode_ext_50 : rows_ext_50.all reads = true := by decide +kernel

def rows_ext_60 : List (List Byte × Instr) :=
  [([0b11001011, 0b01100000], .bit4B), ([0b11001011, 0b01100001], .bit4C),
   ([0b11001011, 0b01100010], .bit4D), ([0b11001011, 0b01100011], .bit4E),
   ([0b11001011, 0b01100100], .bit4H), ([0b11001011, 0b01100101], .bit4L),
   ([0b11001011, 0b01100110], .bit4AtHL), ([0b11001011, 0b01100111], .bit4A),
   ([0b11001011, 0b01101000], .bit5B), ([0b11001011, 0b01101001], .bit5C),
   ([0b11001011, 0b01101010], .bit5D), ([0b11001011, 0b01101011], .bit5E),
   ([0b11001011, 0b01101100], .bit5H), ([0b11001011, 0b01101101], .bit5L),
   ([0b11001011, 0b01101110], .bit5AtHL), ([0b11001011, 0b01101111], .bit5A)]

theorem test_decode_ext_60 : rows_ext_60.all reads = true := by decide +kernel

def rows_ext_70 : List (List Byte × Instr) :=
  [([0b11001011, 0b01110000], .bit6B), ([0b11001011, 0b01110001], .bit6C),
   ([0b11001011, 0b01110010], .bit6D), ([0b11001011, 0b01110011], .bit6E),
   ([0b11001011, 0b01110100], .bit6H), ([0b11001011, 0b01110101], .bit6L),
   ([0b11001011, 0b01110110], .bit6AtHL), ([0b11001011, 0b01110111], .bit6A),
   ([0b11001011, 0b01111000], .bit7B), ([0b11001011, 0b01111001], .bit7C),
   ([0b11001011, 0b01111010], .bit7D), ([0b11001011, 0b01111011], .bit7E),
   ([0b11001011, 0b01111100], .bit7H), ([0b11001011, 0b01111101], .bit7L),
   ([0b11001011, 0b01111110], .bit7AtHL), ([0b11001011, 0b01111111], .bit7A)]

theorem test_decode_ext_70 : rows_ext_70.all reads = true := by decide +kernel

def rows_ext_80 : List (List Byte × Instr) :=
  [([0b11001011, 0b10000000], .res0B), ([0b11001011, 0b10000001], .res0C),
   ([0b11001011, 0b10000010], .res0D), ([0b11001011, 0b10000011], .res0E),
   ([0b11001011, 0b10000100], .res0H), ([0b11001011, 0b10000101], .res0L),
   ([0b11001011, 0b10000110], .res0AtHL), ([0b11001011, 0b10000111], .res0A),
   ([0b11001011, 0b10001000], .res1B), ([0b11001011, 0b10001001], .res1C),
   ([0b11001011, 0b10001010], .res1D), ([0b11001011, 0b10001011], .res1E),
   ([0b11001011, 0b10001100], .res1H), ([0b11001011, 0b10001101], .res1L),
   ([0b11001011, 0b10001110], .res1AtHL), ([0b11001011, 0b10001111], .res1A)]

theorem test_decode_ext_80 : rows_ext_80.all reads = true := by decide +kernel

def rows_ext_90 : List (List Byte × Instr) :=
  [([0b11001011, 0b10010000], .res2B), ([0b11001011, 0b10010001], .res2C),
   ([0b11001011, 0b10010010], .res2D), ([0b11001011, 0b10010011], .res2E),
   ([0b11001011, 0b10010100], .res2H), ([0b11001011, 0b10010101], .res2L),
   ([0b11001011, 0b10010110], .res2AtHL), ([0b11001011, 0b10010111], .res2A),
   ([0b11001011, 0b10011000], .res3B), ([0b11001011, 0b10011001], .res3C),
   ([0b11001011, 0b10011010], .res3D), ([0b11001011, 0b10011011], .res3E),
   ([0b11001011, 0b10011100], .res3H), ([0b11001011, 0b10011101], .res3L),
   ([0b11001011, 0b10011110], .res3AtHL), ([0b11001011, 0b10011111], .res3A)]

theorem test_decode_ext_90 : rows_ext_90.all reads = true := by decide +kernel

def rows_ext_A0 : List (List Byte × Instr) :=
  [([0b11001011, 0b10100000], .res4B), ([0b11001011, 0b10100001], .res4C),
   ([0b11001011, 0b10100010], .res4D), ([0b11001011, 0b10100011], .res4E),
   ([0b11001011, 0b10100100], .res4H), ([0b11001011, 0b10100101], .res4L),
   ([0b11001011, 0b10100110], .res4AtHL), ([0b11001011, 0b10100111], .res4A),
   ([0b11001011, 0b10101000], .res5B), ([0b11001011, 0b10101001], .res5C),
   ([0b11001011, 0b10101010], .res5D), ([0b11001011, 0b10101011], .res5E),
   ([0b11001011, 0b10101100], .res5H), ([0b11001011, 0b10101101], .res5L),
   ([0b11001011, 0b10101110], .res5AtHL), ([0b11001011, 0b10101111], .res5A)]

theorem test_decode_ext_A0 : rows_ext_A0.all reads = true := by decide +kernel

def rows_ext_B0 : List (List Byte × Instr) :=
  [([0b11001011, 0b10110000], .res6B), ([0b11001011, 0b10110001], .res6C),
   ([0b11001011, 0b10110010], .res6D), ([0b11001011, 0b10110011], .res6E),
   ([0b11001011, 0b10110100], .res6H), ([0b11001011, 0b10110101], .res6L),
   ([0b11001011, 0b10110110], .res6AtHL), ([0b11001011, 0b10110111], .res6A),
   ([0b11001011, 0b10111000], .res7B), ([0b11001011, 0b10111001], .res7C),
   ([0b11001011, 0b10111010], .res7D), ([0b11001011, 0b10111011], .res7E),
   ([0b11001011, 0b10111100], .res7H), ([0b11001011, 0b10111101], .res7L),
   ([0b11001011, 0b10111110], .res7AtHL), ([0b11001011, 0b10111111], .res7A)]

theorem test_decode_ext_B0 : rows_ext_B0.all reads = true := by decide +kernel

def rows_ext_C0 : List (List Byte × Instr) :=
  [([0b11001011, 0b11000000], .set0B), ([0b11001011, 0b11000001], .set0C),
   ([0b11001011, 0b11000010], .set0D), ([0b11001011, 0b11000011], .set0E),
   ([0b11001011, 0b11000100], .set0H), ([0b11001011, 0b11000101], .set0L),
   ([0b11001011, 0b11000110], .set0AtHL), ([0b11001011, 0b11000111], .set0A),
   ([0b11001011, 0b11001000], .set1B), ([0b11001011, 0b11001001], .set1C),
   ([0b11001011, 0b11001010], .set1D), ([0b11001011, 0b11001011], .set1E),
   ([0b11001011, 0b11001100], .set1H), ([0b11001011, 0b11001101], .set1L),
   ([0b11001011, 0b11001110], .set1AtHL), ([0b11001011, 0b11001111], .set1A)]

theorem test_decode_ext_C0 : rows_ext_C0.all reads = true := by decide +kernel

def rows_ext_D0 : List (List Byte × Instr) :=
  [([0b11001011, 0b11010000], .set2B), ([0b11001011, 0b11010001], .set2C),
   ([0b11001011, 0b11010010], .set2D), ([0b11001011, 0b11010011], .set2E),
   ([0b11001011, 0b11010100], .set2H), ([0b11001011, 0b11010101], .set2L),
   ([0b11001011, 0b11010110], .set2AtHL), ([0b11001011, 0b11010111], .set2A),
   ([0b11001011, 0b11011000], .set3B), ([0b11001011, 0b11011001], .set3C),
   ([0b11001011, 0b11011010], .set3D), ([0b11001011, 0b11011011], .set3E),
   ([0b11001011, 0b11011100], .set3H), ([0b11001011, 0b11011101], .set3L),
   ([0b11001011, 0b11011110], .set3AtHL), ([0b11001011, 0b11011111], .set3A)]

theorem test_decode_ext_D0 : rows_ext_D0.all reads = true := by decide +kernel

def rows_ext_E0 : List (List Byte × Instr) :=
  [([0b11001011, 0b11100000], .set4B), ([0b11001011, 0b11100001], .set4C),
   ([0b11001011, 0b11100010], .set4D), ([0b11001011, 0b11100011], .set4E),
   ([0b11001011, 0b11100100], .set4H), ([0b11001011, 0b11100101], .set4L),
   ([0b11001011, 0b11100110], .set4AtHL), ([0b11001011, 0b11100111], .set4A),
   ([0b11001011, 0b11101000], .set5B), ([0b11001011, 0b11101001], .set5C),
   ([0b11001011, 0b11101010], .set5D), ([0b11001011, 0b11101011], .set5E),
   ([0b11001011, 0b11101100], .set5H), ([0b11001011, 0b11101101], .set5L),
   ([0b11001011, 0b11101110], .set5AtHL), ([0b11001011, 0b11101111], .set5A)]

theorem test_decode_ext_E0 : rows_ext_E0.all reads = true := by decide +kernel

def rows_ext_F0 : List (List Byte × Instr) :=
  [([0b11001011, 0b11110000], .set6B), ([0b11001011, 0b11110001], .set6C),
   ([0b11001011, 0b11110010], .set6D), ([0b11001011, 0b11110011], .set6E),
   ([0b11001011, 0b11110100], .set6H), ([0b11001011, 0b11110101], .set6L),
   ([0b11001011, 0b11110110], .set6AtHL), ([0b11001011, 0b11110111], .set6A),
   ([0b11001011, 0b11111000], .set7B), ([0b11001011, 0b11111001], .set7C),
   ([0b11001011, 0b11111010], .set7D), ([0b11001011, 0b11111011], .set7E),
   ([0b11001011, 0b11111100], .set7H), ([0b11001011, 0b11111101], .set7L),
   ([0b11001011, 0b11111110], .set7AtHL), ([0b11001011, 0b11111111], .set7A)]

theorem test_decode_ext_F0 : rows_ext_F0.all reads = true := by decide +kernel

/-- Two instructions in a row: what is left over is the rest (R93). -/
theorem test_decode_leaves_the_rest : (match decode [0xC3, 0x50, 0x01, 0x76] with
    | .ok (i, rest) => i == .jpA16 0x0150 && rest == [0x76]
    | .error _ => false) = true := by decide

theorem test_decode_rejects_by_name : (match decode [0xCD, 0x10] with
    | .ok _ => false
    | .error e => e == .truncated 0xCD) = true := by decide

/-- Words as spec/opcode_table.json numbers them, base rows and extended rows (R110). -/
theorem test_table_words : ([(8, 0x00, .nop), (8, 0x76, .halt), (8, 0x10, .stop 0x00), (8, 0x01, .ldBCD16 0x0000),
    (8, 0xFE, .cpD8 0x00), (8, 0xFD, .undefFD), (16, 0xCB2C, .sraH), (16, 0xCBFF, .set7A), (16, 0xCB00, .rlcB),
    (16, 0xCBCB, .set1E), (24, 0x0150C3, .jpA16 0x0150), (16, 0x453E, .ldAD8 0x45)]
    : List (Nat × Nat × Instr)).all (fun row => decodeTableWord row.1 row.2.1 == some row.2.2) = true := by
  decide +kernel

/-! ## Test vectors of spec/95_test_vectors.md, section 2 -/

/-- The start state of the vectors: PC at 0100, everything else as after a reset with all registers zero. -/
def start : State := { State.reset with pc := 0x0100 }

/-- The step answers a next state of which `p` holds. -/
def nextHas (s : State) (p : State → Bool) : Bool :=
  match step s with
  | .next t => p t
  | .fault _ => false
  | .refused _ => false

/-- One step of `s` with these bytes at its pc. -/
def runs (bytes : List Byte) (s : State) (p : State → Bool) : Bool := nextHas (s.storeBytes s.pc bytes) p

/-- NOP, LD B,C, LD A,d8, LD H,(HL), LD (HL),d8, LD (HL+),A wrap. -/
theorem test_vectors_loads8_1 :
    (
    runs [0x00] (start)
      (fun t => t.pc == 0x0101 && t.tStep == 4) &&
    runs [0x41] ({ start with c := 0x7E })
      (fun t => t.b == 0x7E && t.pc == 0x0101 && t.tStep == 4) &&
    runs [0x3E, 0x99] (start)
      (fun t => t.a == 0x99 && t.pc == 0x0102 && t.tStep == 8) &&
    runs [0x66] (({ start with h := 0xC0, l := 0x50 }).write8 0xC050 0x12)
      (fun t => t.h == 0x12 && t.pc == 0x0101 && t.tStep == 8) &&
    runs [0x36, 0xAB] ({ start with h := 0xC0, l := 0x00 })
      (fun t => t.read8 0xC000 == 0xAB && t.pc == 0x0102 && t.tStep == 12) &&
    runs [0x22] ({ start with h := 0xFF, l := 0xFF, a := 0x5A })
      (fun t => t.read8 0xFFFF == 0x5A && t.hl == 0x0000 && t.pc == 0x0101 && t.tStep == 8)
    ) = true := by
  decide +kernel

/-- LD A,(HL-) wrap, LD (HL-),A, LD A,(BC), LD (DE),A, LDH (a8),A, LDH A,(a8). -/
theorem test_vectors_loads8_2 :
    (
    runs [0x3A] (({ start with h := 0x00, l := 0x00 }).write8 0x0000 0x77)
      (fun t => t.a == 0x77 && t.hl == 0xFFFF && t.pc == 0x0101 && t.tStep == 8) &&
    runs [0x32] ({ start with h := 0x00, l := 0xFF, a := 0x45 })
      (fun t => t.read8 0x00FF == 0x45 && t.hl == 0x00FE && t.pc == 0x0101 && t.tStep == 8) &&
    runs [0x0A] (({ start with b := 0xC1, c := 0x23 }).write8 0xC123 0xEE)
      (fun t => t.a == 0xEE && t.pc == 0x0101 && t.tStep == 8) &&
    runs [0x12] ({ start with d := 0xC2, e := 0x00, a := 0x11 })
      (fun t => t.read8 0xC200 == 0x11 && t.pc == 0x0101 && t.tStep == 8) &&
    runs [0xE0, 0x80] ({ start with a := 0x3C })
      (fun t => t.read8 0xFF80 == 0x3C && t.pc == 0x0102 && t.tStep == 12) &&
    runs [0xF0, 0x44] ((start).write8 0xFF44 0x91)
      (fun t => t.a == 0x91 && t.pc == 0x0102 && t.tStep == 12)
    ) = true := by
  decide +kernel

/-- LD (C),A, LD A,(C), LD (a16),A, LD A,(a16), LD B,d8 at PC = FFFF. -/
theorem test_vectors_loads8_3 :
    (
    runs [0xE2] ({ start with a := 0x01, c := 0xFF })
      (fun t => t.read8 0xFFFF == 0x01 && t.pc == 0x0101 && t.tStep == 8) &&
    runs [0xF2] (({ start with c := 0x0F }).write8 0xFF0F 0x1F)
      (fun t => t.a == 0x1F && t.pc == 0x0101 && t.tStep == 8) &&
    runs [0xEA, 0x34, 0xC2] ({ start with a := 0x77 })
      (fun t => t.read8 0xC234 == 0x77 && t.pc == 0x0103 && t.tStep == 16) &&
    runs [0xFA, 0x34, 0xC2] ((start).write8 0xC234 0x88)
      (fun t => t.a == 0x88 && t.pc == 0x0103 && t.tStep == 16) &&
    runs [0x06, 0x42] ({ start with pc := 0xFFFF })
      (fun t => t.b == 0x42 && t.pc == 0x0001 && t.tStep == 8)
    ) = true := by
  decide +kernel

/-- LD SP,d16, LD BC,d16, LD (a16),SP wrap, LD SP,HL, LD HL,SP+e8 (-1), LD HL,SP+e8 (+1). -/
theorem test_vectors_loads16_1 :
    (
    runs [0x31, 0xFE, 0xFF] (start)
      (fun t => t.sp == 0xFFFE && t.pc == 0x0103 && t.tStep == 12) &&
    runs [0x01, 0x34, 0x12] (start)
      (fun t => t.b == 0x12 && t.c == 0x34 && t.pc == 0x0103 && t.tStep == 12) &&
    runs [0x08, 0xFF, 0xFF] ({ start with sp := 0xABCD })
      (fun t => t.read8 0xFFFF == 0xCD && t.read8 0x0000 == 0xAB && t.pc == 0x0103 && t.tStep == 20) &&
    runs [0xF9] ({ start with h := 0xC8, l := 0x00 })
      (fun t => t.sp == 0xC800 && t.pc == 0x0101 && t.tStep == 8) &&
    runs [0xF8, 0xFF] ({ start with sp := 0x0000 })
      (fun t => t.hl == 0xFFFF && t.f == 0x00 && t.pc == 0x0102 && t.tStep == 12) &&
    runs [0xF8, 0x01] ({ start with sp := 0x00FF, f := 0xF0 })
      (fun t => t.hl == 0x0100 && t.f == 0x30 && t.pc == 0x0102 && t.tStep == 12)
    ) = true := by
  decide +kernel

/-- PUSH AF, PUSH HL wrap, POP AF, POP DE wrap. -/
theorem test_vectors_loads16_2 :
    (
    runs [0xF5] ({ start with a := 0x12, f := 0xB7, sp := 0xD000 })
      (fun t => t.sp == 0xCFFE && t.read8 0xCFFE == 0xB7 && t.read8 0xCFFF == 0x12 && t.f == 0xB7 && t.pc == 0x0101 && t.tStep == 16) &&
    runs [0xE5] ({ start with h := 0xBE, l := 0xEF, sp := 0x0001 })
      (fun t => t.sp == 0xFFFF && t.read8 0xFFFF == 0xEF && t.read8 0x0000 == 0xBE && t.pc == 0x0101 && t.tStep == 16) &&
    runs [0xF1] ((({ start with sp := 0xCFFE }).write8 0xCFFE 0xFF).write8 0xCFFF 0x9A)
      (fun t => t.a == 0x9A && t.f == 0xFF && t.sp == 0xD000 && t.pc == 0x0101 && t.tStep == 12) &&
    runs [0xD1] ((({ start with sp := 0xFFFF }).write8 0xFFFF 0x34).write8 0x0000 0x12)
      (fun t => t.d == 0x12 && t.e == 0x34 && t.sp == 0x0001 && t.pc == 0x0101 && t.tStep == 12)
    ) = true := by
  decide +kernel

/-- INC A, INC A, INC B, DEC B, DEC B, DEC B. -/
theorem test_vectors_incdec_1 :
    (
    runs [0x3C] ({ start with a := 0xFF, f := 0x10 })
      (fun t => t.a == 0x00 && t.f == 0xB0 && t.pc == 0x0101 && t.tStep == 4) &&
    runs [0x3C] ({ start with a := 0x0F, f := 0xC0 })
      (fun t => t.a == 0x10 && t.f == 0x20 && t.pc == 0x0101 && t.tStep == 4) &&
    runs [0x04] ({ start with b := 0x00 })
      (fun t => t.b == 0x01 && t.f == 0x00 && t.pc == 0x0101 && t.tStep == 4) &&
    runs [0x05] ({ start with b := 0x00, f := 0x10 })
      (fun t => t.b == 0xFF && t.f == 0x70 && t.pc == 0x0101 && t.tStep == 4) &&
    runs [0x05] ({ start with b := 0x10 })
      (fun t => t.b == 0x0F && t.f == 0x60 && t.pc == 0x0101 && t.tStep == 4) &&
    runs [0x05] ({ start with b := 0x01 })
      (fun t => t.b == 0x00 && t.f == 0xC0 && t.pc == 0x0101 && t.tStep == 4)
    ) = true := by
  decide +kernel

/-- INC (HL), DEC (HL), INC BC wrap, DEC SP wrap, ADD HL,HL, ADD HL,BC. -/
theorem test_vectors_incdec_2 :
    (
    runs [0x34] (({ start with h := 0xC0, l := 0x00 }).write8 0xC000 0xFF)
      (fun t => t.read8 0xC000 == 0x00 && t.f == 0xA0 && t.pc == 0x0101 && t.tStep == 12) &&
    runs [0x35] (({ start with h := 0xC0, l := 0x00 }).write8 0xC000 0x00)
      (fun t => t.read8 0xC000 == 0xFF && t.f == 0x60 && t.pc == 0x0101 && t.tStep == 12) &&
    runs [0x03] ({ start with b := 0xFF, c := 0xFF, f := 0xF0 })
      (fun t => t.bc == 0x0000 && t.f == 0xF0 && t.pc == 0x0101 && t.tStep == 8) &&
    runs [0x3B] ({ start with sp := 0x0000 })
      (fun t => t.sp == 0xFFFF && t.pc == 0x0101 && t.tStep == 8) &&
    runs [0x29] ({ start with h := 0x00, l := 0x01 })
      (fun t => t.hl == 0x0002 && t.f == 0x00 && t.pc == 0x0101 && t.tStep == 8) &&
    runs [0x09] ({ start with h := 0x0F, l := 0xFF, b := 0x00, c := 0x01, f := 0x80 })
      (fun t => t.hl == 0x1000 && t.f == 0xA0 && t.pc == 0x0101 && t.tStep == 8)
    ) = true := by
  decide +kernel

/-- ADD HL,DE, ADD HL,SP, ADD SP,e8 (-1), ADD SP,e8 (+8). -/
theorem test_vectors_incdec_3 :
    (
    runs [0x19] ({ start with h := 0xFF, l := 0xFF, d := 0x00, e := 0x01, f := 0x40 })
      (fun t => t.hl == 0x0000 && t.f == 0x30 && t.pc == 0x0101 && t.tStep == 8) &&
    runs [0x39] ({ start with h := 0x80, l := 0x00, sp := 0x8000 })
      (fun t => t.hl == 0x0000 && t.f == 0x10 && t.pc == 0x0101 && t.tStep == 8) &&
    runs [0xE8, 0xFF] ({ start with sp := 0x0000, f := 0x80 })
      (fun t => t.sp == 0xFFFF && t.f == 0x00 && t.pc == 0x0102 && t.tStep == 16) &&
    runs [0xE8, 0x08] ({ start with sp := 0xFFF8 })
      (fun t => t.sp == 0x0000 && t.f == 0x30 && t.pc == 0x0102 && t.tStep == 16)
    ) = true := by
  decide +kernel

/-- ADD A,B, ADD A,A, ADD A,d8, ADC A,C, ADC A,d8, ADC A,d8. -/
theorem test_vectors_alu_1 :
    (
    runs [0x80] ({ start with a := 0x3A, b := 0xC6, f := 0x0F })
      (fun t => t.a == 0x00 && t.f == 0xB0 && t.pc == 0x0101 && t.tStep == 4) &&
    runs [0x87] ({ start with a := 0x80 })
      (fun t => t.a == 0x00 && t.f == 0x90 && t.tStep == 4) &&
    runs [0xC6, 0x01] ({ start with a := 0x0F })
      (fun t => t.a == 0x10 && t.f == 0x20 && t.pc == 0x0102 && t.tStep == 8) &&
    runs [0x89] ({ start with a := 0xFF, c := 0x00, f := 0x10 })
      (fun t => t.a == 0x00 && t.f == 0xB0 && t.tStep == 4) &&
    runs [0xCE, 0x01] ({ start with a := 0x0E, f := 0x10 })
      (fun t => t.a == 0x10 && t.f == 0x20 && t.pc == 0x0102 && t.tStep == 8) &&
    runs [0xCE, 0x01] ({ start with a := 0x0E, f := 0xE0 })
      (fun t => t.a == 0x0F && t.f == 0x00 && t.pc == 0x0102 && t.tStep == 8)
    ) = true := by
  decide +kernel

/-- SUB A, SUB B, SUB d8, SBC A,B, SBC A,A, SBC A,d8. -/
theorem test_vectors_alu_2 :
    (
    runs [0x97] ({ start with a := 0x42 })
      (fun t => t.a == 0x00 && t.f == 0xC0 && t.tStep == 4) &&
    runs [0x90] ({ start with a := 0x10, b := 0x20 })
      (fun t => t.a == 0xF0 && t.f == 0x50 && t.tStep == 4) &&
    runs [0xD6, 0x01] ({ start with a := 0x10 })
      (fun t => t.a == 0x0F && t.f == 0x60 && t.pc == 0x0102 && t.tStep == 8) &&
    runs [0x98] ({ start with a := 0x00, b := 0xFF, f := 0x10 })
      (fun t => t.a == 0x00 && t.f == 0xF0 && t.tStep == 4) &&
    runs [0x9F] ({ start with a := 0x55, f := 0x10 })
      (fun t => t.a == 0xFF && t.f == 0x70 && t.tStep == 4) &&
    runs [0xDE, 0x0F] ({ start with a := 0x10, f := 0x10 })
      (fun t => t.a == 0x00 && t.f == 0xE0 && t.pc == 0x0102 && t.tStep == 8)
    ) = true := by
  decide +kernel

/-- AND (HL), AND A, XOR A, XOR d8, OR B, OR (HL). -/
theorem test_vectors_alu_3 :
    (
    runs [0xA6] (({ start with a := 0xF0, h := 0xC0, l := 0x00 }).write8 0xC000 0x0F)
      (fun t => t.a == 0x00 && t.f == 0xA0 && t.tStep == 8) &&
    runs [0xA7] ({ start with a := 0x5A, f := 0x50 })
      (fun t => t.a == 0x5A && t.f == 0x20 && t.tStep == 4) &&
    runs [0xAF] ({ start with a := 0x5A, f := 0xFF })
      (fun t => t.a == 0x00 && t.f == 0x80 && t.tStep == 4) &&
    runs [0xEE, 0x0F] ({ start with a := 0xFF })
      (fun t => t.a == 0xF0 && t.f == 0x00 && t.pc == 0x0102 && t.tStep == 8) &&
    runs [0xB0] ({ start with a := 0x00, b := 0x00, f := 0x70 })
      (fun t => t.a == 0x00 && t.f == 0x80 && t.tStep == 4) &&
    runs [0xB6] (({ start with a := 0x01, h := 0xC0, l := 0x00 }).write8 0xC000 0x80)
      (fun t => t.a == 0x81 && t.f == 0x00 && t.tStep == 8)
    ) = true := by
  decide +kernel

/-- CP B, CP d8, CP (HL), DAA, DAA, DAA. -/
theorem test_vectors_alu_4 :
    (
    runs [0xB8] ({ start with a := 0x3C, b := 0x3C })
      (fun t => t.a == 0x3C && t.f == 0xC0 && t.tStep == 4) &&
    runs [0xFE, 0x40] ({ start with a := 0x3C })
      (fun t => t.a == 0x3C && t.f == 0x50 && t.pc == 0x0102 && t.tStep == 8) &&
    runs [0xBE] (({ start with a := 0x30, h := 0xC0, l := 0x00 }).write8 0xC000 0x01)
      (fun t => t.a == 0x30 && t.f == 0x60 && t.tStep == 8) &&
    runs [0x27] ({ start with a := 0x7D, f := 0x00 })
      (fun t => t.a == 0x83 && t.f == 0x00 && t.tStep == 4) &&
    runs [0x27] ({ start with a := 0x9A, f := 0x00 })
      (fun t => t.a == 0x00 && t.f == 0x90 && t.tStep == 4) &&
    runs [0x27] ({ start with a := 0x00, f := 0x70 })
      (fun t => t.a == 0x9A && t.f == 0x50 && t.tStep == 4)
    ) = true := by
  decide +kernel

/-- DAA, CPL, SCF, CCF, CCF. -/
theorem test_vectors_alu_5 :
    (
    runs [0x27] ({ start with a := 0x0F, f := 0x60 })
      (fun t => t.a == 0x09 && t.f == 0x40 && t.tStep == 4) &&
    runs [0x2F] ({ start with a := 0x35, f := 0x90 })
      (fun t => t.a == 0xCA && t.f == 0xF0 && t.tStep == 4) &&
    runs [0x37] ({ start with f := 0xE0 })
      (fun t => t.f == 0x90 && t.tStep == 4) &&
    runs [0x3F] ({ start with f := 0xF0 })
      (fun t => t.f == 0x80 && t.tStep == 4) &&
    runs [0x3F] ({ start with f := 0x00 })
      (fun t => t.f == 0x10 && t.tStep == 4)
    ) = true := by
  decide +kernel

/-- RLCA, RLCA, RRCA, RLA, RLA, RRA. -/
theorem test_vectors_rotates_1 :
    (
    runs [0x07] ({ start with a := 0xF0 })
      (fun t => t.a == 0xE1 && t.f == 0x10 && t.pc == 0x0101 && t.tStep == 4) &&
    runs [0x07] ({ start with a := 0x00, f := 0xF0 })
      (fun t => t.a == 0x00 && t.f == 0x00 && t.tStep == 4) &&
    runs [0x0F] ({ start with a := 0x01 })
      (fun t => t.a == 0x80 && t.f == 0x10 && t.tStep == 4) &&
    runs [0x17] ({ start with a := 0x80, f := 0x00 })
      (fun t => t.a == 0x00 && t.f == 0x10 && t.tStep == 4) &&
    runs [0x17] ({ start with a := 0x00, f := 0x10 })
      (fun t => t.a == 0x01 && t.f == 0x00 && t.tStep == 4) &&
    runs [0x1F] ({ start with a := 0x01, f := 0x10 })
      (fun t => t.a == 0x80 && t.f == 0x10 && t.tStep == 4)
    ) = true := by
  decide +kernel

/-- RLC B, RLC (HL), RRC C, RL D, RR E, SLA D. -/
theorem test_vectors_rotates_2 :
    (
    runs [0xCB, 0x00] ({ start with b := 0x00 })
      (fun t => t.b == 0x00 && t.f == 0x00 && t.pc == 0x0102 && t.tStep == 8) &&
    runs [0xCB, 0x06] (({ start with h := 0xC0, l := 0x00 }).write8 0xC000 0x85)
      (fun t => t.read8 0xC000 == 0x0B && t.f == 0x10 && t.pc == 0x0102 && t.tStep == 16) &&
    runs [0xCB, 0x09] ({ start with c := 0x01 })
      (fun t => t.c == 0x80 && t.f == 0x10 && t.tStep == 8) &&
    runs [0xCB, 0x12] ({ start with d := 0x80, f := 0x00 })
      (fun t => t.d == 0x00 && t.f == 0x10 && t.tStep == 8) &&
    runs [0xCB, 0x1B] ({ start with e := 0x01, f := 0x10 })
      (fun t => t.e == 0x80 && t.f == 0x10 && t.tStep == 8) &&
    runs [0xCB, 0x22] ({ start with d := 0x80 })
      (fun t => t.d == 0x00 && t.f == 0x90 && t.tStep == 8)
    ) = true := by
  decide +kernel

/-- SLA H, SRA A, SRA L, SWAP A, SWAP (HL), SRL B. -/
theorem test_vectors_rotates_3 :
    (
    runs [0xCB, 0x24] ({ start with h := 0x41 })
      (fun t => t.h == 0x82 && t.f == 0x00 && t.tStep == 8) &&
    runs [0xCB, 0x2F] ({ start with a := 0x8A })
      (fun t => t.a == 0xC5 && t.f == 0x00 && t.tStep == 8) &&
    runs [0xCB, 0x2D] ({ start with l := 0x01 })
      (fun t => t.l == 0x00 && t.f == 0x90 && t.tStep == 8) &&
    runs [0xCB, 0x37] ({ start with a := 0x00, f := 0x10 })
      (fun t => t.a == 0x00 && t.f == 0x80 && t.tStep == 8) &&
    runs [0xCB, 0x36] (({ start with h := 0xC0, l := 0x00 }).write8 0xC000 0xF1)
      (fun t => t.read8 0xC000 == 0x1F && t.f == 0x00 && t.tStep == 16) &&
    runs [0xCB, 0x38] ({ start with b := 0x01 })
      (fun t => t.b == 0x00 && t.f == 0x90 && t.tStep == 8)
    ) = true := by
  decide +kernel

/-- SRL A, BIT 7,H, BIT 0,(HL), RES 3,(HL), SET 7,E. -/
theorem test_vectors_rotates_4 :
    (
    runs [0xCB, 0x3F] ({ start with a := 0xFF })
      (fun t => t.a == 0x7F && t.f == 0x10 && t.tStep == 8) &&
    runs [0xCB, 0x7C] ({ start with h := 0x80, f := 0x10 })
      (fun t => t.f == 0x30 && t.pc == 0x0102 && t.tStep == 8) &&
    runs [0xCB, 0x46] (({ start with h := 0xC0, l := 0x00, f := 0x40 }).write8 0xC000 0xFE)
      (fun t => t.f == 0xA0 && t.pc == 0x0102 && t.tStep == 16) &&
    runs [0xCB, 0x9E] (({ start with h := 0xC0, l := 0x00, f := 0xF0 }).write8 0xC000 0xFF)
      (fun t => t.read8 0xC000 == 0xF7 && t.f == 0xF0 && t.tStep == 16) &&
    runs [0xCB, 0xFB] ({ start with e := 0x00 })
      (fun t => t.e == 0x80 && t.f == 0x00 && t.tStep == 8)
    ) = true := by
  decide +kernel

/-- JR e8 (-2), JR e8 (+5), JR NZ,e8 taken, JR NZ,e8 not taken, JR C,e8 (-128), JP a16. -/
theorem test_vectors_jumps_1 :
    (
    runs [0x18, 0xFE] (start)
      (fun t => t.pc == 0x0100 && t.tStep == 12) &&
    runs [0x18, 0x05] (start)
      (fun t => t.pc == 0x0107 && t.tStep == 12) &&
    runs [0x20, 0x10] ({ start with f := 0x00 })
      (fun t => t.pc == 0x0112 && t.tStep == 12) &&
    runs [0x20, 0x10] ({ start with f := 0x80 })
      (fun t => t.pc == 0x0102 && t.tStep == 8) &&
    runs [0x38, 0x80] ({ start with f := 0x10 })
      (fun t => t.pc == 0x0082 && t.tStep == 12) &&
    runs [0xC3, 0x50, 0x01] (start)
      (fun t => t.pc == 0x0150 && t.tStep == 16)
    ) = true := by
  decide +kernel

/-- JP C,a16 not taken, JP Z,a16 taken, JP (HL), CALL a16, CALL NZ,a16 not taken, CALL C,a16 taken. -/
theorem test_vectors_jumps_2 :
    (
    runs [0xDA, 0x00, 0x02] ({ start with f := 0x00 })
      (fun t => t.pc == 0x0103 && t.tStep == 12) &&
    runs [0xCA, 0x00, 0x02] ({ start with f := 0x80 })
      (fun t => t.pc == 0x0200 && t.tStep == 16) &&
    runs [0xE9] ((({ start with h := 0x40, l := 0x00 }).write8 0x4000 0x34).write8 0x4001 0x12)
      (fun t => t.pc == 0x4000 && t.tStep == 4) &&
    runs [0xCD, 0x34, 0x12] ({ start with sp := 0xD000 })
      (fun t => t.sp == 0xCFFE && t.read8 0xCFFE == 0x03 && t.read8 0xCFFF == 0x01 && t.pc == 0x1234 && t.tStep == 24) &&
    runs [0xC4, 0x34, 0x12] ({ start with sp := 0xD000, f := 0x80 })
      (fun t => t.sp == 0xD000 && t.pc == 0x0103 && t.tStep == 12) &&
    runs [0xDC, 0x34, 0x12] ({ start with sp := 0xD000, f := 0x10 })
      (fun t => t.sp == 0xCFFE && t.read16 0xCFFE == 0x0103 && t.pc == 0x1234 && t.tStep == 24)
    ) = true := by
  decide +kernel

/-- RET, RET Z taken, RET NC not taken, RETI, RST 0x08, RST 0x38 at PC = FFFF. -/
theorem test_vectors_jumps_3 :
    (
    runs [0xC9] ((({ start with sp := 0xCFFE }).write8 0xCFFE 0x03).write8 0xCFFF 0x01)
      (fun t => t.pc == 0x0103 && t.sp == 0xD000 && t.tStep == 16) &&
    runs [0xC8] ((({ start with sp := 0xCFFE, f := 0x80 }).write8 0xCFFE 0x03).write8 0xCFFF 0x01)
      (fun t => t.pc == 0x0103 && t.sp == 0xD000 && t.tStep == 20) &&
    runs [0xD0] ((({ start with sp := 0xCFFE, f := 0x10 }).write8 0xCFFE 0x03).write8 0xCFFF 0x01)
      (fun t => t.pc == 0x0101 && t.sp == 0xCFFE && t.tStep == 8) &&
    runs [0xD9] ((({ start with sp := 0xCFFE, ime := false }).write8 0xCFFE 0x03).write8 0xCFFF 0x01)
      (fun t => t.pc == 0x0103 && t.sp == 0xD000 && t.ime == true && t.tStep == 16) &&
    runs [0xCF] ({ start with sp := 0xD000 })
      (fun t => t.sp == 0xCFFE && t.read16 0xCFFE == 0x0101 && t.pc == 0x0008 && t.tStep == 16) &&
    runs [0xFF] ({ start with pc := 0xFFFF, sp := 0xD000 })
      (fun t => t.sp == 0xCFFE && t.read16 0xCFFE == 0x0000 && t.pc == 0x0038 && t.tStep == 16)
    ) = true := by
  decide +kernel

/-- HALT, STOP, DI, EI. -/
theorem test_vectors_control_1 :
    (
    runs [0x76] (start)
      (fun t => t.runState == .halted && t.pc == 0x0101 && t.tStep == 4) &&
    runs [0x10, 0x00] (start)
      (fun t => t.runState == .stopped && t.pc == 0x0102 && t.tStep == 4) &&
    runs [0xF3] ({ start with ime := true })
      (fun t => t.ime == false && t.pc == 0x0101 && t.tStep == 4) &&
    runs [0xFB] ({ start with ime := false })
      (fun t => t.ime == true && t.pc == 0x0101 && t.tStep == 4)
    ) = true := by
  decide +kernel

/-- The undefined opcode FC (section 2.7). -/
theorem test_vector_undefined :
    runs [0xFC] start (fun t => t.runState == .faulted && t.fault == some { opcode := 0xFC, addr := 0x0100 } &&
      t.pc == 0x0100 && t.tStep == 0 && t.tTotal == 0 && t.internalClock == 0) = true := by
  decide +kernel

/-! ## The interrupt controller (section 2.8) -/

/-- PC = 0200, SP = D000, display off, with these values of IF and IE. -/
def withInterrupts (ifByte ieByte : Byte) (s : State) : State :=
  (({ s with pc := 0x0200, sp := 0xD000 }).write8 0xFF0F ifByte).write8 0xFFFF ieByte

theorem test_I1_I2_I10_dispatch :
    (nextHas (withInterrupts 0x1F 0x1F { start with ime := true }) (fun t => t.sp == 0xCFFE && t.read16 0xCFFE == 0x0200 &&
      t.ime == false && t.read8 0xFF0F == 0x1E && t.pc == 0x0041 && t.tStep == 4) &&
    nextHas (withInterrupts 0x14 0x1C { start with ime := true }) (fun t => t.pc == 0x0051 && t.read8 0xFF0F == 0x10 &&
      t.ime == false && t.sp == 0xCFFE) &&
    nextHas ((withInterrupts 0x02 0x02 { start with ime := true, runState := .halted }).write8 0x0048 0x04) (fun t =>
      t.runState == .running && t.sp == 0xCFFE && t.read16 0xCFFE == 0x0200 && t.pc == 0x0049 && t.b == 0x01 &&
      t.read8 0xFF0F == 0x00 && t.ime == false)) = true := by
  decide +kernel

theorem test_I3_I4_I7_no_dispatch :
    (nextHas (withInterrupts 0x01 0x01 start) (fun t => t.pc == 0x0201 && t.read8 0xFF0F == 0x01 && t.sp == 0xD000) &&
    nextHas (withInterrupts 0x01 0x00 { start with ime := true }) (fun t => t.pc == 0x0201 && t.read8 0xFF0F == 0x01 &&
      t.ime == true) &&
    nextHas (withInterrupts 0xE0 0xFF { start with ime := true }) (fun t => t.pc == 0x0201 && t.read8 0xFF0F == 0xE0)) =
    true := by
  decide +kernel

theorem test_I5_I6_halted :
    (nextHas ((withInterrupts 0x10 0x10 { start with runState := .halted }).write8 0x0200 0x04) (fun t =>
      t.runState == .running && t.b == 0x01 && t.pc == 0x0201 && t.read8 0xFF0F == 0x10 && t.tStep == 4) &&
    nextHas (withInterrupts 0x00 0x00 { start with ime := true, runState := .halted }) (fun t =>
      t.runState == .halted && t.pc == 0x0200 && t.tStep == 4 && t.mStep == 1)) = true := by
  decide +kernel

theorem test_I8_fault_at_the_vector :
    nextHas ((withInterrupts 0x01 0x01 { start with ime := true }).write8 0x0040 0xDD) (fun t => t.sp == 0xCFFE &&
      t.read16 0xCFFE == 0x0200 && t.ime == false && t.read8 0xFF0F == 0x00 && t.pc == 0x0040 && t.runState == .faulted &&
      t.fault == some { opcode := 0xDD, addr := 0x0040 } && t.tStep == 0) = true := by
  decide +kernel

theorem test_I9_push_lands_on_IF :
    nextHas ({ withInterrupts 0x01 0x01 { start with ime := true } with pc := 0x1235, sp := 0xFF11 }) (fun t =>
      t.read8 0xFF10 == 0x12 && t.read8 0xFF0F == 0x34 && t.sp == 0xFF0F && t.pc == 0x0041) = true := by
  decide +kernel

/-! ## The video timing engine (section 2.9) -/

/-- The display on, at this position of the frame, the next instruction a NOP. -/
def showing (clock prevVertical : Nat) : State :=
  ({ start with pc := 0x0200, sp := 0xD000, displayOn := true, internalClock := clock,
                prevHorizontalClock := clock % 114, prevVerticalClock := prevVertical }).write8 0xFF40 0x80

/-- LY and STAT. -/
def shows (t : State) (clock : Nat) (ly stat : Byte) : Bool :=
  t.internalClock == clock && t.read8 0xFF44 == ly && t.read8 0xFF41 == stat

theorem test_V1_first_tick :
    nextHas ({ showing 0 0 with displayOn := false }) (fun t => shows t 1 0x01 0x02 && t.displayOn) = true := by
  decide +kernel

theorem test_V2_V3_V4_modes :
    (nextHas (showing 20 1) (fun t => shows t 21 0x01 0x03) && nextHas (showing 63 1) (fun t => shows t 64 0x01 0x00) &&
    nextHas (showing 113 1) (fun t => shows t 114 0x02 0x02)) = true := by
  decide +kernel

theorem test_V5_V6_V7_vblank :
    (nextHas (showing 16415 144) (fun t => shows t 16416 0x91 0x01 && t.read8 0xFF0F == 0x01) &&
    runs [0xCD, 0x00, 0x03] (showing 16410 144) (fun t => t.internalClock == 16416 && t.read8 0xFF44 == 0x91 &&
      t.read8 0xFF0F == 0x01 && t.sp == 0xCFFE && t.pc == 0x0300) &&
    nextHas (showing 16416 145) (fun t => shows t 16417 0x91 0x01 && t.read8 0xFF0F == 0x00)) = true := by
  decide +kernel

theorem test_V8_V9_frame_render :
    (nextHas (showing 17555 154) (fun t => shows t 0 0x01 0x02 && t.frameEvent) &&
    runs [0xCD, 0x00, 0x03] (showing 17553 154) (fun t => t.internalClock == 3 && t.read8 0xFF44 == 0x01 &&
      t.frameEvent)) = true := by
  decide +kernel

theorem test_V10_display_off :
    runs [0xE0, 0x40] (({ showing 5000 44 with fb := [(7, 2)] }).write8 0xFF44 0x63 |>.write8 0xFF41 0x83) (fun t =>
      t.read8 0xFF40 == 0x00 && t.internalClock == 0 && t.prevHorizontalClock == 0 && t.prevVerticalClock == 0 &&
      t.fb == [] && t.displayOn == false && t.read8 0xFF44 == 0x63 && t.read8 0xFF41 == 0x83 &&
      nextHas t (fun u => u.internalClock == 0 && u.fb == [] && u.displayOn == false)) = true := by
  decide +kernel

/-- The first row of V11, and the first pixel of the row below it. -/
theorem test_V11_tile_pixels :
    (let m := (((showing 17555 154).write8 0x9800 0x01).write8 0x8010 0x3C).write8 0x8011 0x7E
     ([0, 1, 2, 3, 4, 5, 6, 7].map (backgroundPixel m.bgBases m.mem 0) ==
       [0, 2, 3, 3, 3, 3, 2, 0]) &&
     backgroundPixel m.bgBases m.mem 1 0 == 0 && backgroundPixel m.bgBases m.mem 0 8 == 0) = true := by
  decide +kernel

/-- The same row of the same tile, with the map and the tiles elsewhere: the base addresses are parameters (R6, R278). -/
theorem test_other_background_bases :
    (let m := ((start.write8 0x9C00 0x01).write8 0x9010 0x3C).write8 0x9011 0x7E
     [0, 1, 2, 3, 4, 5, 6, 7].map (backgroundPixel { map := 0x9C00, tiles := 0x9000 } m.mem 0) ==
       [0, 2, 3, 3, 3, 3, 2, 0]) = true := by
  decide +kernel

/-! ## Steps that do not exist -/

theorem test_no_step_after_the_end :
    ((match step { start with runState := .stopped } with | .refused r => r == .stopped | _ => false) &&
    (match step { start with runState := .faulted } with | .fault r => r == .undefinedInstruction | _ => false) &&
    (match step { start with running := false } with | .refused r => r == .hostStopped | _ => false)) = true := by
  decide

/-- R246: the host's turn stores JOYP and raises Joypad. -/
theorem test_host_turn_collects :
    nextHas { start with hostInput := [.collect (some 0xEF) true, .stop] } (fun t =>
      t.read8 0xFF00 == 0xEF && t.read8 0xFF0F == 0x10 && t.running && t.hostInput == [.stop]) = true := by
  decide +kernel

/-- R246: a turn that samples `running` as false leaves the state as the last step made it, after a faulting step too. -/
theorem test_host_turn_stops :
    (nextHas { start with hostInput := [.stop] } (fun t =>
      nextHas start (fun u => t == { u with running := false, hostInput := [] })) &&
    runs [0xFD] { start with hostInput := [.stop] } (fun t =>
      t.runState == .faulted && t.running == false && t.hostInput == [] && t.tTotal == 0)) = true := by
  decide +kernel

/-! ## Witnesses: a concrete input that meets the hypotheses of each statement that has any -/

/-- Turns an evaluated test into the existence of the next state. -/
theorem exists_of_nextHas {s : State} {p : State → Bool} (h : nextHas s p = true) :
    ∃ t, step s = .next t ∧ p t = true := by
  unfold nextHas at h
  split at h
  · next t ht => exact ⟨t, ht, h⟩
  · cases h
  · cases h

/-- `exec` answers a next state of which `p` holds. -/
def execHas (i : Instr) (s : State) (p : State → Bool) : Bool :=
  match exec i s with
  | .next t => p t
  | .fault _ => false
  | .refused _ => false

theorem exists_of_execHas {i : Instr} {s : State} {p : State → Bool} (h : execHas i s p = true) :
    ∃ t, exec i s = .next t ∧ p t = true := by
  unfold execHas at h
  split at h
  · next t ht => exact ⟨t, ht, h⟩
  · cases h
  · cases h

theorem witness_DecodeReadsBackEncode : (Instr.ldHLD16 0xFFFF).wellFormed = true := by decide

theorem witness_EncodeReadsBackDecode :
    (Instr.set7A).wellFormed = true ∧ encode .set7A <+: [0xCB, 0xFF, 0x00] := by decide

theorem witness_LengthIsFunctionOfFirstByte :
    (encode (.callA16 0x0000)).head? = (encode (.callA16 0xFFFF)).head? := by decide

/-- Both ways in which no interrupt is dispatched: IME clear with one pending, and IME set with none. -/
theorem witness_StepRunsDecodedInstruction :
    ∃ s : State, ∃ u : State, s.running = true ∧ s.runState = .running ∧ s.ime = false ∧ s.pending ≠ 0 ∧
      u.running = true ∧ u.runState = .running ∧ u.ime = true ∧ u.pending = 0 ∧
      decode [s.read8 s.pc, s.read8 (s.pc + 1), s.read8 (s.pc + 2)] = .ok (.jpA16 0x0150, []) ∧
      decode [u.read8 u.pc, u.read8 (u.pc + 1), u.read8 (u.pc + 2)] = .ok (.nop, [0, 0]) :=
  ⟨(withInterrupts 0x01 0x01 start).storeBytes 0x0200 [0xC3, 0x50, 0x01], { start with ime := true },
   by decide +kernel, by decide +kernel, by decide +kernel, by decide +kernel, by decide +kernel, by decide +kernel,
   by decide +kernel, by decide +kernel, by rfl, by rfl⟩

/-- From Running with the highest source, and from Halted with the lowest. -/
theorem witness_DispatchStepRunsVectorInstruction :
    (let s := withInterrupts 0x01 0x01 { start with ime := true }
     let u := withInterrupts 0x10 0x10 { start with ime := true, runState := .halted }
     s.canStep ∧ s.ime = true ∧ s.pending ≠ 0 ∧ leastSource s.pending = 0 ∧
     u.canStep ∧ u.ime = true ∧ u.pending ≠ 0 ∧ leastSource u.pending = 4) := by
  decide +kernel

/-- The push clear of IF, and the push on IF. -/
theorem witness_InterruptEntrySavesPcAndVectors :
    (let s := withInterrupts 0x1F 0x10 { start with ime := true }
     let u := { s with sp := 0xFF11 }
     s.ime = true ∧ s.pending ≠ 0 ∧ s.sp - 2 ≠ 0xFF0F ∧ u.ime = true ∧ u.pending ≠ 0 ∧ u.sp - 2 = 0xFF0F) := by
  decide +kernel

theorem witness_LowestPendingSourceIsDispatched :
    (let s := withInterrupts 0xFF 0x18 { start with ime := true }
     s.pending ≠ 0 ∧ 0 < leastSource s.pending ∧ s.ime = true) := by
  decide +kernel

theorem witness_WakeWithoutDispatch :
    (let s := withInterrupts 0x01 0x01 { start with runState := .halted }
     let u := { start with ime := true, runState := .halted }
     s.ime = false ∧ s.pending ≠ 0 ∧ u.ime = true ∧ u.pending = 0) := by
  decide +kernel

/-- With the display on and with it off. -/
theorem witness_HaltedIdleStepChargesFour :
    (let s := { showing 17555 154 with runState := .halted }
     let u := { start with runState := .halted }
     s.running = true ∧ s.runState = .halted ∧ s.pending = 0 ∧ s.hostInput = [] ∧ (s.read8 0xFF40).getLsbD 7 = true ∧
     u.running = true ∧ u.runState = .halted ∧ u.pending = 0 ∧ u.hostInput = [] ∧ (u.read8 0xFF40).getLsbD 7 = false) := by
  decide +kernel

/-- At the pc, and at the vector of a dispatch. -/
theorem witness_UndefinedOpcodeEntersFaulted :
    (let s := start.write8 0x0100 0xD3
     let u := (withInterrupts 0x01 0x01 { start with ime := true, runState := .halted }).write8 0x0040 0xFD
     let v := s.beginStep.interruptCheck
     let w := u.beginStep.interruptCheck
     s.canStep ∧ v.runState = .running ∧ v.read8 v.pc ∈ undefinedRows.map Prod.fst ∧ v.pc = s.pc ∧
     u.canStep ∧ w.runState = .running ∧ w.read8 w.pc ∈ undefinedRows.map Prod.fst ∧ w.pc = 0x0040) := by
  decide +kernel

theorem witness_UndefinedRowRaisesFault :
    ((0xD3, .undefD3) : Byte × Instr) ∈ undefinedRows ∧ ((0xFD, .undefFD) : Byte × Instr) ∈ undefinedRows := by
  decide

theorem witness_ClockCountsEveryStep : ∃ t, step start = .next t ∧ t.runState ≠ .faulted :=
  let ⟨t, h, ht⟩ := exists_of_nextHas (s := start) (p := fun t => t.runState == .running) (by decide +kernel)
  ⟨t, h, by rw [beq_iff_eq] at ht; rw [ht]; decide⟩

/-- No input, a turn that stops, and a turn that collects. -/
theorem witness_HostTurnTouchesOnlyJoypad :
    State.reset.hostInput = [] ∧ ({ start with hostInput := [.stop] } : State).hostInput = .stop :: [] ∧
    ({ start with hostInput := [.collect (some 0xEF) true, .stop] } : State).hostInput =
      .collect (some 0xEF) true :: [.stop] := ⟨rfl, rfl, rfl⟩

theorem witness_FetchWordRunsNext :
    decodeTableWord 24 0x0150C3 = some (.jpA16 0x0150) ∧ decodeTableWord 16 0xCBFF = some .set7A := by
  constructor <;> rfl

/-- EI and DI change IME, HALT and STOP the run-state, an undefined opcode run-state and record. -/
theorem witness_OnlyListedInstructionsWriteControlState :
    (∃ t, exec .ei start = .next t ∧ (t.ime != start.ime) = true) ∧
    (∃ t, exec (.stop 0x00) start = .next t ∧ (t.runState != start.runState) = true) ∧
    (∃ t, exec .undefD3 start = .next t ∧ (t.runState != start.runState && t.fault != start.fault) = true) :=
  ⟨exists_of_execHas (p := fun t => t.ime != start.ime) (by decide +kernel),
   exists_of_execHas (p := fun t => t.runState != start.runState) (by decide +kernel),
   exists_of_execHas (p := fun t => t.runState != start.runState && t.fault != start.fault) (by decide +kernel)⟩

theorem witness_OnlyListedInstructionsWriteSP :
    ∃ t, exec .pushAF start = .next t ∧ (t.sp != start.sp) = true :=
  exists_of_execHas (p := fun t => t.sp != start.sp) (by decide +kernel)

theorem witness_OnlyListedInstructionsWriteFlags :
    (Instr.scf).wellFormed = true ∧ ∃ t, exec .scf start = .next t ∧ (t.f != start.f) = true :=
  ⟨by decide, exists_of_execHas (p := fun t => t.f != start.f) (by decide +kernel)⟩

/-- An accumulator operation clears the low bits, POP AF loads them, INC keeps them. -/
theorem witness_LowFlagBitsWrittenInTwoWays :
    (∃ t, exec (rowAlu .add .atHL) { start with f := 0x0F } = .next t ∧ (t.f == 0x80) = true) ∧
    (∃ t, exec .popAF (start.write8 0x0000 0x0F) = .next t ∧ (t.f == 0x0F) = true) ∧
    (∃ t, exec .incB { start with f := 0x0F } = .next t ∧ (t.f == 0x0F) = true) :=
  ⟨exists_of_execHas (p := fun t => t.f == 0x80) (by decide +kernel),
   exists_of_execHas (p := fun t => t.f == 0x0F) (by decide +kernel),
   exists_of_execHas (p := fun t => t.f == 0x0F) (by decide +kernel)⟩

/-- A state in the middle of a line, with the display on, that meets the invariant. -/
def midLine : State := ((showing 63 1).write8 0xFF44 0x01).write8 0xFF41 0x03

theorem witness_StepKeepsInvariant : midLine.Inv ∧ ∃ t, step midLine = .next t :=
  ⟨{ memory := by decide +kernel, pixels := by decide +kernel, clockRange := by decide +kernel,
     positionOn := by decide +kernel, positionOff := by decide +kernel, stepUnits := by decide +kernel,
     totalUnits := by decide +kernel, faultRecord := by decide +kernel, scanline := by decide +kernel,
     mode := by decide +kernel },
   let ⟨t, h, _⟩ := exists_of_nextHas (s := midLine) (p := fun _ => true) (by decide +kernel)
   ⟨t, h⟩⟩

/-- A boot image that the loader takes, and two that it refuses; the last byte of the boot image and the first byte of
the cartridge that it leaves visible. -/
theorem witness_LaunchMemoryOverlaysBootImage :
    (let boot : List Byte := List.replicate 255 0x00 ++ [0x50]
     let cartridge : List Byte := List.replicate 255 0x00 ++ [0xC3, 0x18]
     let m := launchMemory cartridge boot
     (boot.length = 256 ∧ boot.getD 255 0 = 0x50) ∧ ¬ (boot ++ [0x50]).length = 256 ∧
     ¬ (List.replicate 256 (0x00 : Byte)).getD 255 0 = 0x50 ∧
     (255 < boot.length ∧ Memory.read m (BitVec.ofNat 16 255) = 0x50) ∧
     (¬ 256 < boot.length ∧ 256 < cartridge.length ∧ Memory.read m (BitVec.ofNat 16 256) = 0x18) ∧
     (¬ 257 < boot.length ∧ ¬ 257 < cartridge.length ∧ Memory.read m (BitVec.ofNat 16 257) = 0x00)) := by
  decide +kernel

/-- The last clock of a line, so that the position moves to the next line. -/
theorem witness_DisplayPositionAfterStep :
    ∃ t, step (showing 113 1) = .next t ∧
      (t.runState == .running && (t.read8 0xFF40).getLsbD 7 && t.internalClock == 114) = true :=
  exists_of_nextHas (by decide +kernel)

/-- The VBlank crossing, the frame wrap, and line 144 with a previous line above 144, where neither is crossed. -/
theorem witness_DisplayOnTickMemory :
    (let at144 := showing 16415 144
     let wrap := showing 17555 154
     let back := showing 16301 145
     (at144.read8 0xFF40).getLsbD 7 = true ∧ at144.prevVerticalClock ≤ 144 ∧
     ((at144.internalClock + 1) % 17556) / 114 + 1 = 145 ∧
     (wrap.read8 0xFF40).getLsbD 7 = true ∧ wrap.prevVerticalClock > 144 ∧
     ((wrap.internalClock + 1) % 17556) / 114 + 1 = 1 ∧
     (back.read8 0xFF40).getLsbD 7 = true ∧ back.prevVerticalClock > 144 ∧
     ((back.internalClock + 1) % 17556) / 114 + 1 = 144) := by
  decide +kernel

/-- The first and the last pixel. -/
theorem witness_FrameRenderDecodesBackground : (0 < 256 ∧ 0 < 256) ∧ (255 < 256 ∧ 255 < 256) := by decide

/-- The first tick after an on-tick, and a later one. -/
theorem witness_DisplayOffClearsOnce :
    (let s := (showing 5000 44).write8 0xFF40 0x7F
     (s.read8 0xFF40).getLsbD 7 = false ∧ s.displayOn = true ∧
     (start.read8 0xFF40).getLsbD 7 = false ∧ start.displayOn = false) := by
  decide +kernel

theorem witness_VBlankAfterExactlyVisibleLines :
    ((showing 0 0).read8 0xFF40).getLsbD 7 = true ∧ (showing 0 0).internalClock = 0 ∧
    (showing 0 0).prevVerticalClock ≤ 144 ∧ (∀ n ∈ List.replicate (114 * 24) 6, 1 ≤ n ∧ n ≤ 6) ∧
    (List.replicate (114 * 24) 6).sum = 114 * 144 :=
  ⟨by decide +kernel, by decide +kernel, by decide +kernel,
   fun n hn => by rw [List.eq_of_mem_replicate hn]; decide, by rw [List.sum_replicate]; decide⟩

/-- The smallest and the largest pair of digits. -/
theorem witness_DecimalAdditionIsExact :
    (0 < 100 ∧ start.a = bcd 0) ∧ (99 < 100 ∧ ({ start with a := 0x99 } : State).a = bcd 99) := by decide

/-- Each condition, holding and not holding. -/
theorem witness_CallsPushReturnAddress :
    [Cond.nz, .z, .nc, .c].map (condOfF 0x00) = [true, false, true, false] ∧
    [Cond.nz, .z, .nc, .c].map (condOfF 0x90) = [false, true, false, true] := by decide

/-- Each condition, holding and not holding. -/
theorem witness_ReturnsPopPc :
    [Cond.nz, .z, .nc, .c].map (condOfF 0x6F) = [true, false, true, false] ∧
    [Cond.nz, .z, .nc, .c].map (condOfF 0xFF) = [false, true, false, true] := by decide

end Sys2Proof.Machine.Tests
end

/-! What reset leaves (R47, R301 to R304), for every value of the open parameters. -/

namespace Sys2Proof.Machine

section Reset

variable (regs : ResetRegs) (mem0 : List Host.Cell) (fb0 : List (Nat × BitVec 2)) (bases : BackgroundBases)
  (input : List HostTurn)

@[simp] theorem State.read8_resetWith (addr : Word) :
    (State.resetWith regs mem0 fb0 bases input).read8 addr = Memory.read mem0 addr := rfl

@[simp] theorem State.pc_resetWith : (State.resetWith regs mem0 fb0 bases input).pc = 0x0000 := rfl

/-- R304: the first fetch reads the launch memory from address 0. -/
theorem State.fetch_resetWith :
    (State.resetWith regs mem0 fb0 bases input).fetch =
      decodeBytes (Memory.read mem0 0) (Memory.read mem0 1) (Memory.read mem0 2) := by
  simp [State.fetch]

end Reset

/-- Settles O26: the registers, the clock, the video state and the other parameters are fields of `State.resetWith`;
memory and the first fetch are the lemmas above. -/
theorem resetValues : Obligations.ResetValues := by
  intro regs mem0 fb0 bases input r
  have hmem : ∀ addr, r.read8 addr = Memory.read mem0 addr := State.read8_resetWith regs mem0 fb0 bases input
  have hfetch := State.fetch_resetWith regs mem0 fb0 bases input
  exact ⟨State.pc_resetWith regs mem0 fb0 bases input, rfl, rfl, rfl, rfl, rfl, rfl, rfl, rfl, rfl, rfl, rfl, rfl, rfl,
    rfl, rfl, hmem, rfl, rfl, rfl, rfl, rfl, rfl, rfl, rfl, rfl, hfetch⟩

end Sys2Proof.Machine

/-! The word store (R65, R66): what it leaves at its two addresses and at every other one, and the word read back. -/

namespace Sys2Proof.Machine

section WordStore

variable (s : State) (addr v : Word)

/-- The two byte stores never meet (R65), at the last address of the address space either, so the second leaves the
first. -/
theorem State.read8_write16_addr : (s.write16 addr v).read8 addr = loByte v := by
  rw [State.read8_write16, if_neg (succ_ne_self addr).symm, if_pos rfl]

theorem State.read8_write16_succ : (s.write16 addr v).read8 (addr + 1) = hiByte v := by
  rw [State.read8_write16, if_pos rfl]

theorem State.agreeOnBytes_write16 : agreeOnBytes [addr, addr + 1] s (s.write16 addr v) := by
  intro other hother
  obtain ⟨hne, hneSucc⟩ : other ≠ addr ∧ other ≠ addr + 1 := by simpa using hother
  rw [State.read8_write16, if_neg hneSucc, if_neg hne]

theorem State.read16_write16 : (s.write16 addr v).read16 addr = v := by
  rw [State.read16, State.read8_write16_succ, State.read8_write16_addr, joinBytes_halves]

end WordStore

/-- Settles O28: the lemmas above, with the halves of the word written as the statement writes them, by truncation and
shift. -/
theorem wordStoreIsLittleEndian : Obligations.WordStoreIsLittleEndian := by
  intro s addr v
  rw [BitVec.setWidth_ushiftRight_eq_extractLsb, BitVec.setWidth_eq_extractLsb' (by decide : 8 ≤ 16)]
  exact ⟨s.read8_write16_addr addr v, s.read8_write16_succ addr v, s.agreeOnBytes_write16 addr v,
    s.read16_write16 addr v⟩

end Sys2Proof.Machine

/-! The 8-bit loads and stores, NOP and CPU control (R120 to R139, R230 to R233): how one update of the state ends an
instruction, and the frame it has. -/

namespace Sys2Proof.Machine

section RegisterFrame

variable (s : State) (r : Reg8) (v : Byte) (addr w len : Word) (n : Nat)

@[simp] theorem State.get8_retire : (s.retire len n).get8 r = s.get8 r := by cases r <;> rfl

@[simp] theorem State.get8_write8 : (s.write8 addr v).get8 r = s.get8 r := by cases r <;> rfl

theorem State.agreeOnRegs_set8 : agreeOnRegs [r] s (s.set8 r v) := by
  intro q hq
  rw [State.get8_set8, if_neg (List.ne_of_not_mem_cons hq)]

/-- Writing HL leaves every register but H and L (R21). -/
theorem State.agreeOnRegs_setHL : agreeOnRegs [.h, .l] s (s.setHL w) := by
  intro q hq
  cases q with
  | h => simp at hq
  | l => simp at hq
  | _ => rfl

theorem State.agreeOnBytes_write8 : agreeOnBytes [addr] s (s.write8 addr v) := by
  intro other hother
  rw [State.read8_write8, if_neg (List.ne_of_not_mem_cons hother)]

variable {s} {t u : State} {rs qs : List Reg8}

/-- Two updates one after the other leave the registers that both leave. -/
theorem agreeOnRegs_trans (hsu : agreeOnRegs rs s u) (hut : agreeOnRegs qs u t) : agreeOnRegs (rs ++ qs) s t := by
  intro q hq
  obtain ⟨hrs, hqs⟩ : q ∉ rs ∧ q ∉ qs := by simpa using hq
  rw [hut q hqs, hsu q hrs]

theorem agreeOnRegs_retire (hsu : agreeOnRegs rs s u) : agreeOnRegs rs s (u.retire len n) := by
  intro q hq
  rw [State.get8_retire, hsu q hq]

end RegisterFrame

/-! ## The result of a load and of a store: the byte that is new, and the frame -/

/-- `t` holds `v` in register `r`; F, every other register, memory, SP and the control state are those of `s`. -/
abbrev loadedIn (r : Reg8) (v : Byte) (s t : State) : Prop :=
  t.get8 r = v ∧ agreeOnRegs [r] s t ∧ t.f = s.f ∧ agreeOnBytes [] s t ∧ agreeOnSpAndControl s t

/-- `t` holds `v` at `addr`; every register, F, every other byte, SP and the control state are those of `s`. -/
abbrev storedAt (addr : Word) (v : Byte) (s t : State) : Prop :=
  t.read8 addr = v ∧ agreeOnRegs [] s t ∧ t.f = s.f ∧ agreeOnBytes [addr] s t ∧ agreeOnSpAndControl s t

section Completion

variable {i : Instr} {s u : State} {r : Reg8} {v : Byte} {addr w len : Word} {n : Nat} {post : State → Prop}

/-- An instruction that ends with `retire` completes: the pc moves past it, and the frame outside the CPU is that of
every instruction. -/
theorem runs_of_retire (hexec : exec i s = .next (u.retire len n)) (hpc : u.pc = s.pc) (hpost : post (u.retire len n)) :
    Runs i s (s.pc + len) n post :=
  ⟨_, hexec, by rw [State.pc_retire, hpc], rfl, (exec_keepsMachine s i).outside _ hexec, hpost⟩

theorem runs_load (hexec : exec i s = .next ((s.set8 r v).retire len n)) :
    Runs i s (s.pc + len) n (loadedIn r v s) := by
  refine runs_of_retire hexec (s.pc_set8 r v)
    ⟨by simp, ?_, s.f_set8 r v, fun addr _ => s.read8_set8 r v addr, s.sp_set8 r v, s.ime_set8 r v, s.runState_set8 r v,
      s.fault_set8 r v⟩
  exact agreeOnRegs_retire len n (s.agreeOnRegs_set8 r v)

theorem runs_store (hexec : exec i s = .next ((s.write8 addr v).retire len n)) :
    Runs i s (s.pc + len) n (storedAt addr v s) :=
  runs_of_retire hexec rfl ⟨by simp, fun r _ => by simp, rfl, s.agreeOnBytes_write8 v addr, rfl, rfl, rfl, rfl⟩

/-- A load of A that then writes HL (R132, R133). -/
theorem runs_load_setHL (hexec : exec i s = .next (((s.set8 .a v).setHL w).retire len n)) :
    Runs i s (s.pc + len) n fun t =>
      t.a = v ∧ t.hl = w ∧ agreeOnRegs [.a, .h, .l] s t ∧ t.f = s.f ∧ agreeOnBytes [] s t ∧ agreeOnSpAndControl s t := by
  refine runs_of_retire hexec rfl ⟨rfl, (s.set8 .a v).hl_setHL w, ?_, rfl, fun addr _ => rfl, rfl, rfl, rfl, rfl⟩
  exact agreeOnRegs_retire len n (agreeOnRegs_trans (s.agreeOnRegs_set8 .a v) (State.agreeOnRegs_setHL _ w))

/-- A store that then writes HL (R130, R131). -/
theorem runs_store_setHL (hexec : exec i s = .next (((s.write8 addr v).setHL w).retire len n)) :
    Runs i s (s.pc + len) n fun t =>
      t.read8 addr = v ∧ t.hl = w ∧ agreeOnRegs [.h, .l] s t ∧ t.f = s.f ∧ agreeOnBytes [addr] s t ∧
      agreeOnSpAndControl s t := by
  refine runs_of_retire hexec rfl
    ⟨by simp, (s.write8 addr v).hl_setHL w, ?_, rfl, s.agreeOnBytes_write8 v addr, rfl, rfl, rfl, rfl⟩
  have hstore : agreeOnRegs [] s (s.write8 addr v) := fun r _ => s.get8_write8 r v addr
  exact agreeOnRegs_retire len n (agreeOnRegs_trans hstore (State.agreeOnRegs_setHL _ w))

/-- An instruction that sets nothing but the run-state and IME (R120, R230 to R233). -/
theorem runs_control {state : RunState} {on : Bool}
    (hexec : exec i s = .next (({ s with runState := state, ime := on } : State).retire len n)) :
    Runs i s (s.pc + len) n fun t =>
      (agreeOnRegs [] s t ∧ t.f = s.f ∧ agreeOnBytes [] s t ∧ t.sp = s.sp ∧ t.fault = s.fault) ∧
      t.runState = state ∧ t.ime = on := by
  refine runs_of_retire hexec rfl ⟨⟨?_, rfl, fun addr _ => rfl, rfl, rfl⟩, rfl, rfl⟩
  intro r _
  cases r <;> rfl

end Completion

/-- The high page begins at `0xFF00`: joining the byte `0xFF` to `v` adds `v` to it (R99, R136). -/
theorem highPage_eq_add (v : Byte) : highPage v = 0xFF00 + v.setWidth 16 := by
  apply BitVec.eq_of_toNat_eq
  have hv := v.isLt
  have hjoin : (highPage v).toNat = 0xFF00 + v.toNat := by
    simp only [highPage, joinBytes, BitVec.toNat_append, ← Nat.shiftLeft_add_eq_or_of_lt hv]
    rfl
  have hbase : (0xFF00 : Word).toNat = 0xFF00 := rfl
  rw [hjoin, BitVec.toNat_add, BitVec.toNat_setWidth, hbase]
  omega

/-- Settles O34: each row runs `loadOperand`, which is one register write or one byte store. -/
theorem loadBetweenOperands : Obligations.LoadBetweenOperands := by
  intro s
  refine ⟨fun dst src => ?_, fun dst => ?_, fun src => ?_⟩
  · exact runs_load (exec_rowLd s (.reg dst) (.reg src) (by simp))
  · exact runs_load (exec_rowLd s (.reg dst) .atHL (by simp))
  · exact runs_store (exec_rowLd s .atHL (.reg src) (by simp))

/-- Settles O35: each row runs `loadImmediate`, which is one register write or one byte store. -/
theorem loadImmediateByte : Obligations.LoadImmediateByte := by
  intro s d8
  refine ⟨fun dst => ?_, ?_⟩
  · exact runs_load (exec_rowLdImm s (.reg dst) d8)
  · exact runs_store (exec_rowLdImm s .atHL d8)

/-- Settles O36: each row runs `loadA`; the address is that of the state before HL is written. -/
theorem loadAThroughPair : Obligations.LoadAThroughPair := by
  intro s
  refine ⟨?bc, ?de, ?hlInc, ?hlDec⟩
  case bc => exact runs_load (r := .a) (exec_rowLoadA s .bc)
  case de => exact runs_load (r := .a) (exec_rowLoadA s .de)
  case hlInc => exact runs_load_setHL (exec_rowLoadA s .hlInc)
  case hlDec => exact runs_load_setHL (exec_rowLoadA s .hlDec)

/-- Settles O37: each row runs `storeA`; the address is that of the state before HL is written. -/
theorem storeAThroughPair : Obligations.StoreAThroughPair := by
  intro s
  refine ⟨?bc, ?de, ?hlInc, ?hlDec⟩
  case bc => exact runs_store (exec_rowStoreA s .bc)
  case de => exact runs_store (exec_rowStoreA s .de)
  case hlInc => exact runs_store_setHL (exec_rowStoreA s .hlInc)
  case hlDec => exact runs_store_setHL (exec_rowStoreA s .hlDec)

/-- Settles O38: each row is one load or one store of A, at an address that `highPage_eq_add` gives as the statement
writes it. -/
theorem highPageAndAbsoluteForms : Obligations.HighPageAndAbsoluteForms := by
  intro s a8 a16 high stored loaded
  have hhigh : ∀ v, high v = highPage v := fun v => (highPage_eq_add v).symm
  rw [hhigh a8, hhigh s.c]
  refine ⟨?storeA8, ?loadA8, ?storeC, ?loadC, ?storeA16, ?loadA16⟩
  case storeA8 => exact runs_store (addr := highPage a8) rfl
  case loadA8 => exact runs_load (r := .a) rfl
  case storeC => exact runs_store (addr := highPage s.c) rfl
  case loadC => exact runs_load (r := .a) rfl
  case storeA16 => exact runs_store (addr := a16) rfl
  case loadA16 => exact runs_load (r := .a) rfl

/-- Settles O60: each row keeps or sets the run-state and IME, and nothing else. -/
theorem nopHaltStopDiEi : Obligations.NopHaltStopDiEi := by
  intro s pad kept
  refine ⟨?nop, ?halt, ?stop, ?di, ?ei⟩
  case nop => exact runs_control (state := s.runState) (on := s.ime) rfl
  case halt => exact runs_control (on := s.ime) rfl
  case stop => exact runs_control (on := s.ime) rfl
  case di => exact runs_control (state := s.runState) rfl
  case ei => exact runs_control (state := s.runState) rfl

end Sys2Proof.Machine

/-! The 16-bit loads, the stack, INC rr, DEC rr and ADD SP,e8 (R150 to R156, R160, R161, R167): what a write of a register
pair, the push of a word and the signed displacement do. -/

namespace Sys2Proof.Machine

section PairWrite

variable (s : State) (p q : Pair) (v len addr : Word) (n : Nat)

/-- Writing a pair leaves the three other pairs (R21, R95). -/
@[simp] theorem State.getPair_setPair : (s.setPair p v).getPair q = if q = p then v else s.getPair q := by
  cases p <;> cases q <;> simp [State.setPair, State.getPair, State.bc, State.de, State.hl]

@[simp] theorem State.getPair_retire : (s.retire len n).getPair p = s.getPair p := by cases p <;> rfl

@[simp] theorem State.a_setPair : (s.setPair p v).a = s.a := by cases p <;> rfl
@[simp] theorem State.f_setPair : (s.setPair p v).f = s.f := by cases p <;> rfl
@[simp] theorem State.pc_setPair : (s.setPair p v).pc = s.pc := by cases p <;> rfl
@[simp] theorem State.mem_setPair : (s.setPair p v).mem = s.mem := by cases p <;> rfl
@[simp] theorem State.ime_setPair : (s.setPair p v).ime = s.ime := by cases p <;> rfl
@[simp] theorem State.runState_setPair : (s.setPair p v).runState = s.runState := by cases p <;> rfl
@[simp] theorem State.fault_setPair : (s.setPair p v).fault = s.fault := by cases p <;> rfl

@[simp] theorem State.read8_setPair : (s.setPair p v).read8 addr = s.read8 addr :=
  State.read8_congr (s.mem_setPair p v) addr

end PairWrite

section StackPairWrite

variable (s : State) (p q : StackPair) (v len addr : Word) (n : Nat)

/-- Writing a pair of the stack table leaves the three other pairs (R21, R96). -/
@[simp] theorem State.getStackPair_setStackPair :
    (s.setStackPair p v).getStackPair q = if q = p then v else s.getStackPair q := by
  cases p <;> cases q <;> simp [State.setStackPair, State.getStackPair, State.bc, State.de, State.hl, State.af]

@[simp] theorem State.getStackPair_retire : (s.retire len n).getStackPair p = s.getStackPair p := by cases p <;> rfl
@[simp] theorem State.getStackPair_popped : s.popped.getStackPair p = s.getStackPair p := by cases p <;> rfl

@[simp] theorem State.sp_setStackPair : (s.setStackPair p v).sp = s.sp := by cases p <;> rfl
@[simp] theorem State.pc_setStackPair : (s.setStackPair p v).pc = s.pc := by cases p <;> rfl
@[simp] theorem State.mem_setStackPair : (s.setStackPair p v).mem = s.mem := by cases p <;> rfl
@[simp] theorem State.ime_setStackPair : (s.setStackPair p v).ime = s.ime := by cases p <;> rfl
@[simp] theorem State.runState_setStackPair : (s.setStackPair p v).runState = s.runState := by cases p <;> rfl
@[simp] theorem State.fault_setStackPair : (s.setStackPair p v).fault = s.fault := by cases p <;> rfl

@[simp] theorem State.read8_setStackPair : (s.setStackPair p v).read8 addr = s.read8 addr :=
  State.read8_congr (s.mem_setStackPair p v) addr

end StackPairWrite

section Push

variable (s : State) (v : Word) (r : Reg8)

/-- The two addresses of the slot, as a word store and as the statements write the second. -/
theorem slot_succ (sp : Word) : sp - 2 + 1 = sp - 1 := by bv_omega

theorem State.read8_push16_low : (s.push16 v).read8 (s.sp - 2) = loByte v :=
  State.read8_write16_addr _ _ v

theorem State.read8_push16_high : (s.push16 v).read8 (s.sp - 1) = hiByte v := by
  rw [← slot_succ]
  exact State.read8_write16_succ _ _ v

theorem State.agreeOnBytes_push16 : agreeOnBytes [s.sp - 2, s.sp - 1] s (s.push16 v) := by
  rw [← slot_succ]
  exact State.agreeOnBytes_write16 _ _ v

@[simp] theorem State.get8_push16 : (s.push16 v).get8 r = s.get8 r := by cases r <;> rfl

end Push

section FlagWrite

variable (s : State) (fl : Flags) (r : Reg8)

@[simp] theorem State.get8_setFlags : (s.setFlags fl).get8 r = s.get8 r := by cases r <;> rfl

/-- `flags <- (z, n, h, c)` writes the four flags and keeps `F[3:0]` (R12, R23). -/
theorem State.flagsAre_setFlags : flagsAre (s.setFlags fl) fl.z fl.n fl.h fl.c :=
  ⟨packFlags_z fl s.f, packFlags_n fl s.f, packFlags_h fl s.f, packFlags_c fl s.f⟩

theorem State.agreeOnLowF_setFlags : agreeOnLowF s (s.setFlags fl) := packFlags_low fl s.f

end FlagWrite

section Displacement

variable (sp : Word) (e8 : Byte)

/-- The sum is that of the integers, modulo 2^16 (R153, R167): sign extension is `BitVec.ofInt` of the signed byte. -/
theorem toNat_addDisplacement : ((addDisplacement sp e8).1.toNat : Int) = (sp.toNat + e8.toInt) % 65536 := by
  have hsum : (addDisplacement sp e8).1 = BitVec.ofInt 16 (sp.toNat + e8.toInt) := by
    rw [BitVec.ofInt_add, BitVec.ofInt_natCast, BitVec.ofNat_toNat, BitVec.setWidth_eq]
    rfl
  rw [hsum, BitVec.toNat_ofInt]
  omega

theorem lowNibble_eq_mod (v : Byte) : lowNibble v = v.toNat % 16 := by
  rw [lowNibble, BitVec.extractLsb'_toNat, Nat.shiftRight_zero]

theorem toNat_loByte (w : Word) : (loByte w).toNat = w.toNat % 256 := by
  rw [loByte, BitVec.extractLsb'_toNat, Nat.shiftRight_zero]

/-- HF and CF are the carries of the unsigned addition of the low bytes, written as remainders of SP itself. -/
theorem addDisplacement_flags :
    (addDisplacement sp e8).2 =
      { z := false, n := false, h := decide (sp.toNat % 16 + e8.toNat % 16 > 15),
        c := decide (sp.toNat % 256 + e8.toNat > 255) } := by
  have hnibble : sp.toNat % 256 % 16 = sp.toNat % 16 := Nat.mod_mod_of_dvd _ (by decide)
  rw [addDisplacement, lowNibble_eq_mod, lowNibble_eq_mod, toNat_loByte, hnibble]

end Displacement

section Completion

variable {i : Instr} {s : State} {p : Pair} {v len : Word} {n : Nat}

/-- An instruction that writes one pair and nothing else (R150, R160, R161). -/
theorem runs_setPair (hexec : exec i s = .next ((s.setPair p v).retire len n)) :
    Runs i s (s.pc + len) n fun t =>
      t.getPair p = v ∧ (∀ q : Pair, q ≠ p → t.getPair q = s.getPair q) ∧ t.a = s.a ∧ t.f = s.f ∧
      agreeOnBytes [] s t ∧ agreeOnControl s t := by
  refine runs_of_retire hexec (s.pc_setPair p v) ⟨by simp, fun q hq => ?_, s.a_setPair p v, s.f_setPair p v,
    fun addr _ => s.read8_setPair p v addr, s.ime_setPair p v, s.runState_setPair p v, s.fault_setPair p v⟩
  rw [State.getPair_retire, State.getPair_setPair, if_neg hq]

end Completion

/-- Settles O41: the rows write the value of `addDisplacement` to HL and to SP, and its flags to F. -/
theorem spPlusDisplacement : Obligations.SpPlusDisplacement := by
  intro s e8 sum flags
  have hsum : ((addDisplacement s.sp e8).1.toNat : Int) = sum := toNat_addDisplacement s.sp e8
  have hflags (u : State) (hf : u.f = s.f) : flags (u.setFlags (addDisplacement s.sp e8).2) := by
    rw [addDisplacement_flags]
    refine ⟨u.flagsAre_setFlags _, ?_⟩
    rw [agreeOnLowF, u.agreeOnLowF_setFlags, hf]
  refine ⟨?loadHL, ?addSP⟩
  case loadHL =>
    have hhl : ((s.setHL (addDisplacement s.sp e8).1).hl.toNat : Int) = sum := by rw [State.hl_setHL, hsum]
    refine runs_of_retire rfl rfl ⟨hhl, hflags (s.setHL _) rfl, fun r hr => ?_, fun _ _ => rfl, rfl, rfl, rfl, rfl⟩
    rw [State.get8_retire, State.get8_setFlags, s.agreeOnRegs_setHL _ r hr]
  case addSP =>
    refine runs_of_retire rfl rfl ⟨hsum, hflags { s with sp := _ } rfl, fun r _ => ?_, fun _ _ => rfl, rfl, rfl, rfl⟩
    cases r <;> rfl

/-- Settles O42: PUSH is the word store at the slot below SP, POP the pair write of the word at SP. -/
theorem pushAndPopPair : Obligations.PushAndPopPair := by
  intro s p
  refine ⟨?push, ?pop⟩
  case push =>
    exact runs_of_retire (exec_rowPush s p) rfl
      ⟨rfl, s.read8_push16_low _, s.read8_push16_high _, s.agreeOnBytes_push16 _, fun r _ => by simp, rfl, rfl, rfl, rfl⟩
  case pop =>
    have hword : ((s.popped.setStackPair p s.popValue).retire 1 12).getStackPair p =
        joinBytes (s.read8 (s.sp + 1)) (s.read8 s.sp) := by
      rw [State.getStackPair_retire, State.getStackPair_setStackPair, if_pos rfl]
      rfl
    refine runs_of_retire (exec_rowPop s p) (by simp) ⟨by simp, ?_, ?_, fun q hq => ?_, fun addr _ => by simp,
      by simp, by simp, by simp⟩
    · rw [hword, loByte_joinBytes]
    · rw [hword, hiByte_joinBytes]
    · rw [State.getStackPair_retire, State.getStackPair_setStackPair, if_neg hq, State.getStackPair_popped]

/-- Settles O39: each row writes one pair. -/
theorem pairLoadIncrementDecrement : Obligations.PairLoadIncrementDecrement := by
  intro s p d16 set
  exact ⟨runs_setPair (exec_rowLdPair s p d16), runs_setPair (exec_rowIncPair s p), runs_setPair (exec_rowDecPair s p)⟩

/-- Settles O40: the word store of SP, and the one write of SP. -/
theorem storeAndLoadSP : Obligations.StoreAndLoadSP := by
  intro s a16
  refine ⟨?storeSP, ?loadSP⟩
  case storeSP =>
    refine runs_of_retire rfl rfl ⟨s.read8_write16_addr a16 s.sp, s.read8_write16_succ a16 s.sp,
      s.agreeOnBytes_write16 a16 s.sp, fun r _ => ?_, rfl, rfl, rfl, rfl, rfl⟩
    cases r <;> rfl
  case loadSP =>
    refine runs_of_retire rfl rfl ⟨rfl, fun _ _ => rfl, fun r _ => ?_, rfl, rfl, rfl, rfl⟩
    cases r <;> rfl

end Sys2Proof.Machine

/-! INC, DEC and ADD HL,rr (R162 to R166): what a write of an 8-bit operand followed by the flags does, and the results and
flags of the three operations as the statements write them. -/

namespace Sys2Proof.Machine

section OperandWrite

variable (s : State) (o : Operand8) (v : Byte) (fl : Flags) (len : Word) (n : Nat)

@[simp] theorem State.f_writeOperand : (s.writeOperand o v).f = s.f := by
  cases o with
  | reg r => exact s.f_set8 r v
  | atHL => rfl

@[simp] theorem State.pc_writeOperand : (s.writeOperand o v).pc = s.pc := by
  cases o with
  | reg r => exact s.pc_set8 r v
  | atHL => rfl

theorem State.agreeOnSpAndControl_writeOperand : agreeOnSpAndControl s (s.writeOperand o v) := by
  cases o with
  | reg r => exact ⟨s.sp_set8 r v, s.ime_set8 r v, s.runState_set8 r v, s.fault_set8 r v⟩
  | atHL => exact ⟨rfl, rfl, rfl, rfl⟩

/-- The store to `(HL)` leaves HL, so the operand read back is at the same address. -/
@[simp] theorem State.readOperand_writeOperand : (s.writeOperand o v).readOperand o = v := by
  cases o with
  | reg r => exact (s.get8_set8 r r v).trans (if_pos rfl)
  | atHL => exact (s.read8_write8 s.hl s.hl v).trans (if_pos rfl)

@[simp] theorem State.readOperand_setFlags : (s.setFlags fl).readOperand o = s.readOperand o := by
  cases o with
  | reg r => exact s.get8_setFlags fl r
  | atHL => rfl

@[simp] theorem State.readOperand_retire : (s.retire len n).readOperand o = s.readOperand o := by
  cases o with
  | reg r => exact s.get8_retire r len n
  | atHL => rfl

theorem State.agreeOnRegs_writeOperand : agreeOnRegs (operandRegs o) s (s.writeOperand o v) := by
  cases o with
  | reg r => exact s.agreeOnRegs_set8 r v
  | atHL => exact fun r _ => s.get8_write8 r v s.hl

theorem State.agreeOnBytes_writeOperand : agreeOnBytes (operandBytes s o) s (s.writeOperand o v) := by
  cases o with
  | reg r => exact fun addr _ => s.read8_set8 r v addr
  | atHL => exact s.agreeOnBytes_write8 v s.hl

end OperandWrite

section FlagFrame

variable {s u : State} {rs : List Reg8} (fl : Flags)

theorem agreeOnRegs_setFlags (hsu : agreeOnRegs rs s u) : agreeOnRegs rs s (u.setFlags fl) := by
  intro q hq
  rw [State.get8_setFlags, hsu q hq]

/-- `F[3:0]` stays through an update that keeps F and a flag write after it (R23). -/
theorem agreeOnLowF_setFlags_of_f (hf : u.f = s.f) : agreeOnLowF s (u.setFlags fl) := by
  rw [agreeOnLowF, u.agreeOnLowF_setFlags, hf]

end FlagFrame

section Completion

variable {i : Instr} {s : State} {o : Operand8} {v : Byte} {w : Word} {fl : Flags} {len : Word} {n : Nat}

/-- An instruction that writes an 8-bit operand and the four flags, and nothing else. -/
theorem runs_writeOperand_setFlags (hexec : exec i s = .next (((s.writeOperand o v).setFlags fl).retire len n)) :
    Runs i s (s.pc + len) n fun t =>
      t.readOperand o = v ∧ flagsAre t fl.z fl.n fl.h fl.c ∧ agreeOnLowF s t ∧ agreeOnRegs (operandRegs o) s t ∧
      agreeOnBytes (operandBytes s o) s t ∧ agreeOnSpAndControl s t := by
  refine runs_of_retire hexec (s.pc_writeOperand o v) ⟨by simp, State.flagsAre_setFlags _ fl,
    agreeOnLowF_setFlags_of_f fl (s.f_writeOperand o v), ?_, s.agreeOnBytes_writeOperand o v,
    s.agreeOnSpAndControl_writeOperand o v⟩
  exact agreeOnRegs_retire len n (agreeOnRegs_setFlags fl (s.agreeOnRegs_writeOperand o v))

/-- An instruction that writes HL and the four flags, and nothing else. -/
theorem runs_setHL_setFlags (hexec : exec i s = .next (((s.setHL w).setFlags fl).retire len n)) :
    Runs i s (s.pc + len) n fun t =>
      t.hl = w ∧ flagsAre t fl.z fl.n fl.h fl.c ∧ agreeOnLowF s t ∧ agreeOnRegs [.h, .l] s t ∧ agreeOnBytes [] s t ∧
      agreeOnSpAndControl s t := by
  refine runs_of_retire hexec rfl ⟨s.hl_setHL w, State.flagsAre_setFlags _ fl, agreeOnLowF_setFlags_of_f fl rfl, ?_,
    fun _ _ => rfl, rfl, rfl, rfl, rfl⟩
  exact agreeOnRegs_retire len n (agreeOnRegs_setFlags fl (s.agreeOnRegs_setHL w))

end Completion

/-! ## The results and the flags of INC, DEC and ADD HL,rr -/

/-- Z is set when the byte wraps from `0xFF`, HF when its low nibble does from `0xF` (R162). -/
theorem incByte_eq (pre : Byte) (cf : Bool) :
    incByte pre cf = (pre + 1, { z := pre == 0xFF, n := false, h := pre.toNat % 16 == 15, c := cf }) := by
  have hz : (pre + 1 == 0) = (pre == 0xFF) := by
    rw [Bool.eq_iff_iff, beq_iff_eq, beq_iff_eq]
    bv_omega
  rw [incByte, lowNibble_eq_mod, hz]

/-- Z is set when the byte was 1, HF when its low nibble borrows (R163). -/
theorem decByte_eq (pre : Byte) (cf : Bool) :
    decByte pre cf = (pre - 1, { z := pre == 0x01, n := true, h := pre.toNat % 16 == 0, c := cf }) := by
  have hz : (pre - 1 == 0) = (pre == 0x01) := by
    rw [Bool.eq_iff_iff, beq_iff_eq, beq_iff_eq]
    bv_omega
  rw [decByte, lowNibble_eq_mod, hz]

/-- The carries from bits 11 and 15 (R166), with the twelve low bits of a word written as its remainder. -/
theorem addWords_eq (a b : Word) (zf : Bool) :
    addWords a b zf = (a + b,
      { z := zf, n := false, h := decide (a.toNat % 4096 + b.toNat % 4096 > 4095),
        c := decide (a.toNat + b.toNat > 65535) }) := by
  have hlow (w : Word) : (w.extractLsb' 0 12).toNat = w.toNat % 4096 := by
    rw [BitVec.extractLsb'_toNat, Nat.shiftRight_zero]
  rw [addWords, hlow, hlow]

/-- Settles O43: both rows write their operand and the flags, with the result and flags of `incByte` and `decByte`. -/
theorem incAndDecByte : Obligations.IncAndDecByte := by
  intro s o pre
  have hinc := exec_rowInc s o
  have hdec := exec_rowDec s o
  rw [incOperand, incByte_eq] at hinc
  rw [decOperand, decByte_eq] at hdec
  exact ⟨runs_writeOperand_setFlags hinc, runs_writeOperand_setFlags hdec⟩

/-- Settles O44: the row writes HL and the flags, with the sum and flags of `addWords`. -/
theorem addPairToHL : Obligations.AddPairToHL := by
  intro s p a b
  have hexec := exec_rowAddHL s p
  rw [addToHL, addWords_eq] at hexec
  obtain ⟨t, hnext, hpc, hcost, hout, hhl, hframe⟩ := runs_setHL_setFlags hexec
  have hsum : t.hl.toNat = (a + b) % 65536 := by rw [hhl, BitVec.toNat_add]
  exact ⟨t, hnext, hpc, hcost, hout, hsum, hframe⟩

end Sys2Proof.Machine

/-! The accumulator operations and DAA, CPL, SCF, CCF (R170 to R182): what an operation that clears F leaves, and the results
and flags as the statements write them. -/

namespace Sys2Proof.Machine

/-- `t` is what an accumulator operation with result and flags `r` makes of `s`: A and the four flags are new, `F[3:0]` is 0
because F was cleared (R170 step 3), and the rest is that of `s`. -/
abbrev accumulatedTo (r : Byte × Flags) (s t : State) : Prop :=
  t.a = r.1 ∧ flagsAre t r.2.z r.2.n r.2.h r.2.c ∧ t.f.extractLsb' 0 4 = 0 ∧ agreeOnRegs [.a] s t ∧
  agreeOnBytes [] s t ∧ agreeOnSpAndControl s t

/-- The state in which an accumulator operation with result and flags `r` ends: F is cleared before the flags are set. -/
abbrev accumulatedState (r : Byte × Flags) (len : Word) (n : Nat) (s : State) : State :=
  ((({ s with f := 0 } : State).set8 .a r.1).setFlags r.2).retire len n

section Completion

variable {i : Instr} {s : State} {op : AluOp} {v : Byte} {fl : Flags} {len : Word} {n : Nat}

theorem runs_accumulatedState {r : Byte × Flags} (hexec : exec i s = .next (accumulatedState r len n s)) :
    Runs i s (s.pc + len) n (accumulatedTo r s) := by
  have hlow : (packFlags r.2 0).extractLsb' 0 4 = 0 := packFlags_low r.2 0
  have hclear : agreeOnRegs [] s { s with f := 0 } := fun q _ => by cases q <;> rfl
  refine runs_of_retire hexec rfl
    ⟨rfl, State.flagsAre_setFlags _ r.2, hlow, ?_, fun _ _ => rfl, rfl, rfl, rfl, rfl⟩
  exact agreeOnRegs_retire len n
    (agreeOnRegs_setFlags r.2 (agreeOnRegs_trans hclear (State.agreeOnRegs_set8 _ .a r.1)))

/-- Every form of an operation leaves the result `r x` of the operand `x` that the form reads, if the common part of the
operations does (R170). -/
theorem aluRuns_of_accumulate {r : Byte → Byte × Flags} {post : Byte → State → Prop}
    (haccumulate : ∀ x len n, accumulate op x len n s = .next (accumulatedState (r x) len n s))
    (hpost : ∀ x t, accumulatedTo (r x) s t → post x t) : AluRuns op s post := by
  have hruns {i : Instr} {x : Byte} {len : Word} {n : Nat} (hexec : exec i s = accumulate op x len n s) :
      Runs i s (s.pc + len) n (post x) := by
    obtain ⟨t, hnext, hpc, hcost, hout, ht⟩ := runs_accumulatedState (hexec.trans (haccumulate x len n))
    exact ⟨t, hnext, hpc, hcost, hout, hpost x t ht⟩
  exact ⟨fun o => hruns (exec_rowAlu s op o), fun d8 => hruns (exec_rowAluImm s op d8)⟩

/-- An instruction that writes the four flags and nothing else (R181, R182). -/
theorem runs_setFlags (hexec : exec i s = .next ((s.setFlags fl).retire len n)) :
    Runs i s (s.pc + len) n fun t =>
      flagsAre t fl.z fl.n fl.h fl.c ∧ agreeOnRegs [] s t ∧ agreeOnLowF s t ∧ agreeOnBytes [] s t ∧
      agreeOnSpAndControl s t :=
  runs_of_retire hexec rfl
    ⟨s.flagsAre_setFlags fl, fun q _ => by simp, s.agreeOnLowF_setFlags fl, fun _ _ => rfl, rfl, rfl, rfl, rfl⟩

/-- An instruction that writes A and the four flags and nothing else (R179, R180): the write of the operand `A`. -/
theorem runs_setA_setFlags (hexec : exec i s = .next (((s.set8 .a v).setFlags fl).retire len n)) :
    Runs i s (s.pc + len) n fun t =>
      t.a = v ∧ flagsAre t fl.z fl.n fl.h fl.c ∧ agreeOnLowF s t ∧ agreeOnRegs [.a] s t ∧ agreeOnBytes [] s t ∧
      agreeOnSpAndControl s t :=
  runs_writeOperand_setFlags (o := .reg .a) hexec

end Completion

/-! ## Sums and differences -/

section Arithmetic

variable (a x : Byte) (cin : Bool)

theorem toNat_addBytes : (addBytes a x cin).1.toNat = (a.toNat + x.toNat + cin.toNat) % 256 :=
  BitVec.toNat_ofNat _ 8

/-- The carries out of bits 3 and 7 (R171, R172), with the low nibbles written as remainders. -/
theorem addBytes_flags :
    (addBytes a x cin).2 =
      { z := (addBytes a x cin).1 == 0, n := false, h := decide (a.toNat % 16 + x.toNat % 16 + cin.toNat > 15),
        c := decide (a.toNat + x.toNat + cin.toNat > 255) } := by
  rw [addBytes, lowNibble_eq_mod, lowNibble_eq_mod]

/-- The wrapping difference is that of the integers, modulo 2^8 (R173, R174). -/
theorem toNat_subBytes : ((subBytes a x cin).1.toNat : Int) = ((a.toNat : Int) - x.toNat - cin.toNat) % 256 := by
  have hdiff : (subBytes a x cin).1 = a - x - BitVec.ofNat 8 cin.toNat := rfl
  rw [hdiff, BitVec.toNat_sub, BitVec.toNat_sub, BitVec.toNat_ofNat]
  omega

/-- The borrows (R173, R174), and Z as a statement about the integer difference. -/
theorem subBytes_flags :
    (subBytes a x cin).2 =
      { z := ((a.toNat : Int) - x.toNat - cin.toNat) % 256 == 0, n := true,
        h := decide (a.toNat % 16 < x.toNat % 16 + cin.toNat), c := decide (a.toNat < x.toNat + cin.toNat) } := by
  have hz : ((subBytes a x cin).1 == 0) = (((a.toNat : Int) - x.toNat - cin.toNat) % 256 == 0) := by
    rw [← toNat_subBytes, Bool.eq_iff_iff, beq_iff_eq, beq_iff_eq, Int.natCast_eq_zero]
    exact BitVec.toNat_inj.symm
  rw [← hz, subBytes, lowNibble_eq_mod, lowNibble_eq_mod]

end Arithmetic

/-! ## Decimal adjustment -/

section Decimal

/-- The two corrections have no bit in common, so joining them adds them (R179). -/
theorem toNat_corrections (low high : Bool) :
    (((if low then 0x06 else 0x00) ||| (if high then 0x60 else 0x00) : Byte).toNat : Int) =
      (if low then 6 else 0) + (if high then 0x60 else 0) := by
  cases low <;> cases high <;> rfl

variable (a : Byte) (n h c : Bool)

/-- Both branches of DAA at once: the value of A asks for a correction after an addition only (R179). -/
theorem daaAdjust_eq :
    daaAdjust a n h c =
      ((if h || (!n && decide (a.toNat % 16 > 9)) then 0x06 else 0x00) |||
        (if c || (!n && decide (a.toNat > 0x99)) then 0x60 else 0x00),
       c || (!n && decide (a.toNat > 0x99))) := by
  cases n with
  | false => rw [daaAdjust, lowNibble_eq_mod]; rfl
  | true => simp [daaAdjust]

/-- DAA adds or subtracts its correction modulo 2^8. -/
theorem toNat_daaResult :
    ((daaResult a n h c).1.toNat : Int) =
      (a.toNat + (if n then -((daaAdjust a n h c).1.toNat : Int) else (daaAdjust a n h c).1.toNat)) % 256 := by
  cases n with
  | false =>
    have hsum : (daaResult a false h c).1 = a + (daaAdjust a false h c).1 := rfl
    rw [hsum, BitVec.toNat_add]
    rfl
  | true =>
    have hdiff : (daaResult a true h c).1 = a - (daaAdjust a true h c).1 := rfl
    have hlt := (daaAdjust a true h c).1.isLt
    rw [hdiff, BitVec.toNat_sub, if_pos rfl]
    omega

end Decimal

/-- Settles O45: ADD and ADC leave the sum and flags of `addBytes`, with no carry and with the one before. -/
theorem addAndAddWithCarry : Obligations.AddAndAddWithCarry := by
  intro s post
  have hpost (cin : Bool) (x : Byte) (t : State) (ht : accumulatedTo (addBytes s.a x cin) s t) :
      post cin.toNat x t := by
    obtain ⟨ha, hflags, hframe⟩ := ht
    rw [addBytes_flags, ← ha] at hflags
    exact ⟨by rw [ha, toNat_addBytes], hflags, hframe⟩
  exact ⟨aluRuns_of_accumulate (fun _ _ _ => rfl) (hpost false),
    aluRuns_of_accumulate (fun _ _ _ => rfl) (hpost s.flagC)⟩

/-- Settles O46: SUB and SBC leave the difference and flags of `subBytes`; CP leaves those flags and A itself. -/
theorem subtractBorrowCompare : Obligations.SubtractBorrowCompare := by
  intro s res post cin
  have hpost (b : Bool) (v x : Byte) (t : State) (ht : accumulatedTo (v, (subBytes s.a x b).2) s t) :
      t.a = v ∧ post b.toNat x t := by
    obtain ⟨ha, hflags, hframe⟩ := ht
    rw [subBytes_flags] at hflags
    exact ⟨ha, hflags, hframe⟩
  have hwritten (b : Bool) (x : Byte) (t : State) (ht : accumulatedTo (subBytes s.a x b) s t) :
      (t.a.toNat : Int) = res b.toNat x ∧ post b.toNat x t := by
    obtain ⟨ha, hflags⟩ := hpost b (subBytes s.a x b).1 x t ht
    exact ⟨by rw [ha, toNat_subBytes], hflags⟩
  exact ⟨aluRuns_of_accumulate (fun _ _ _ => rfl) (hwritten false),
    aluRuns_of_accumulate (fun _ _ _ => rfl) (hwritten s.flagC),
    aluRuns_of_accumulate (fun _ _ _ => rfl) (hpost false s.a)⟩

/-- Settles O47: each operation leaves its bitwise result, and flags that are its own but for Z. -/
theorem andXorOr : Obligations.AndXorOr := by
  intro s post
  have hpost (h : Bool) (res : Byte) (t : State)
      (ht : accumulatedTo (res, { z := res == 0, n := false, h := h, c := false }) s t) : post h res t := ht
  exact ⟨aluRuns_of_accumulate (fun _ _ _ => rfl) fun x => hpost true (s.a &&& x),
    aluRuns_of_accumulate (fun _ _ _ => rfl) fun x => hpost false (s.a ^^^ x),
    aluRuns_of_accumulate (fun _ _ _ => rfl) fun x => hpost false (s.a ||| x)⟩

/-- Settles O48: DAA writes A and the flags, with the correction of `daaAdjust`. (`decimalAdjust` itself is the model's
meaning of DAA, so the theorem's name takes the unit's in front.) -/
theorem Alu8.decimalAdjust : Obligations.DecimalAdjust := by
  intro s n h c low high adj
  have hadj : ((daaAdjust s.a n h c).1.toNat : Int) = adj := by
    rw [daaAdjust_eq]
    exact toNat_corrections low high
  have hcarry : (daaAdjust s.a n h c).2 = high := by rw [daaAdjust_eq]
  have hexec : exec .daa s =
      .next (((s.set8 .a (daaResult s.a n h c).1).setFlags (daaResult s.a n h c).2).retire 1 4) := rfl
  obtain ⟨t, hnext, hpc, hcost, hout, ha, hflags, hframe⟩ := runs_setA_setFlags hexec
  have hvalue : (t.a.toNat : Int) = (s.a.toNat + (if n then -adj else adj)) % 256 := by
    rw [ha, toNat_daaResult, hadj]
  have hfinal : flagsAre t (t.a == 0) n false high := by
    rw [ha, ← hcarry]
    exact hflags
  exact ⟨t, hnext, hpc, hcost, hout, hvalue, hfinal, hframe⟩

/-- Settles O50: CPL writes A and the flags, SCF and CCF the flags alone. -/
theorem complementAndCarryFlags : Obligations.ComplementAndCarryFlags := by
  intro s kept z c
  refine ⟨?cpl, ?scf, ?ccf⟩
  case cpl =>
    have hexec : exec .cpl s =
        .next (((s.set8 .a (~~~s.a)).setFlags { z := z, n := true, h := true, c := c }).retire 1 4) := rfl
    obtain ⟨t, hnext, hpc, hcost, hout, ha, hflags, hlow, hregs, hrest⟩ := runs_setA_setFlags hexec
    have hvalue : t.a.toNat = 255 - s.a.toNat := by rw [ha, BitVec.toNat_not]
    exact ⟨t, hnext, hpc, hcost, hout, hvalue, hflags, hregs, hlow, hrest⟩
  case scf => exact runs_setFlags (fl := { z := z, n := false, h := false, c := true }) rfl
  case ccf => exact runs_setFlags (fl := { z := z, n := false, h := false, c := !c }) rfl

end Sys2Proof.Machine

/-! The rotates, shifts and bit operations (R190 to R205): the value of each as arithmetic, what a row that writes one operand
and leaves F does, and the bits of RES and SET. -/

namespace Sys2Proof.Machine

/-! ## Rotated and shifted values -/

section Values

variable (v : Byte) (bit : Bool)

/-- Concatenation multiplies the high part by the weight of the low part. -/
theorem toNat_append_eq_mul_add {m n : Nat} (hi : BitVec m) (lo : BitVec n) :
    (hi ++ lo).toNat = hi.toNat * 2 ^ n + lo.toNat := by
  rw [BitVec.toNat_append, ← Nat.shiftLeft_add_eq_or_of_lt lo.isLt, Nat.shiftLeft_eq]

/-- A shift left with `bit` coming in at bit 0 doubles the byte modulo 2^8 and adds the bit (R195, R197, R199). -/
theorem toNat_shiftLeftIn : (v.extractLsb' 0 7 ++ BitVec.ofBool bit : Byte).toNat = 2 * v.toNat % 256 + bit.toNat := by
  have happend : (v.extractLsb' 0 7 ++ BitVec.ofBool bit : Byte).toNat = v.toNat % 128 * 2 + bit.toNat := by
    rw [toNat_append_eq_mul_add, BitVec.extractLsb'_toNat, BitVec.toNat_ofBool]
    rfl
  rw [happend]
  omega

/-- A shift right with `bit` coming in at bit 7 halves the byte and adds the bit's weight (R196, R198, R200, R202). -/
theorem toNat_shiftRightIn : (BitVec.ofBool bit ++ v.extractLsb' 1 7 : Byte).toNat = v.toNat / 2 + 128 * bit.toNat := by
  have happend : (BitVec.ofBool bit ++ v.extractLsb' 1 7 : Byte).toNat = bit.toNat * 128 + v.toNat / 2 % 128 := by
    rw [toNat_append_eq_mul_add, BitVec.extractLsb'_toNat, BitVec.toNat_ofBool, Nat.shiftRight_eq_div_pow]
    rfl
  have hv := v.isLt
  rw [happend]
  omega

/-- SWAP exchanges the two nibbles (R201). -/
theorem toNat_swapNibbles :
    (v.extractLsb' 0 4 ++ v.extractLsb' 4 4 : Byte).toNat = 16 * (v.toNat % 16) + v.toNat / 16 := by
  have happend : (v.extractLsb' 0 4 ++ v.extractLsb' 4 4 : Byte).toNat = v.toNat % 16 * 16 + v.toNat / 16 % 16 := by
    rw [toNat_append_eq_mul_add, BitVec.extractLsb'_toNat, BitVec.extractLsb'_toNat, Nat.shiftRight_zero,
      Nat.shiftRight_eq_div_pow]
    rfl
  have hv := v.isLt
  rw [happend]
  omega

/-- Bit 7, which SRA keeps, is the byte's quotient by its weight (R200). -/
theorem toNat_bit7 : (v.getLsbD 7).toNat = v.toNat / 128 := by
  have hbit : (v.getLsbD 7).toNat = v.toNat / 2 ^ 7 % 2 := Nat.toNat_testBit v.toNat 7
  have hv := v.isLt
  omega

/-- Z is the same test on the byte and on its value. -/
theorem byte_beq_zero : (v == 0) = (v.toNat == 0) := by
  rw [Bool.eq_iff_iff, beq_iff_eq, beq_iff_eq]
  exact BitVec.toNat_inj.symm

end Values

/-! ## The bits of RES and SET -/

section Bits

variable (n : Fin 8) (v : Byte) {k : Nat}

/-- `1 << n` has bit `n` and no other (R204, R205). -/
theorem getLsbD_bitMask : (bitMask n).getLsbD k = decide (n.val = k) := by
  have hmask : (bitMask n).getLsbD k = (decide (n.val < 8) && decide (n.val = k)) := BitVec.getLsbD_twoPow n.val k
  rw [hmask, decide_eq_true n.isLt, Bool.true_and]

theorem getLsbD_and_not_bitMask (hk : k < 8) :
    (v &&& ~~~bitMask n).getLsbD k = if k = n.val then false else v.getLsbD k := by
  rw [BitVec.getLsbD_and, BitVec.getLsbD_not, getLsbD_bitMask]
  by_cases hkn : k = n.val
  · simp [hkn]
  · simp [hkn, hk, Ne.symm hkn]

theorem getLsbD_or_bitMask : (v ||| bitMask n).getLsbD k = if k = n.val then true else v.getLsbD k := by
  rw [BitVec.getLsbD_or, getLsbD_bitMask]
  by_cases hkn : k = n.val
  · simp [hkn]
  · simp [hkn, Ne.symm hkn]

end Bits

/-! ## How a row of these groups ends -/

section Completion

variable {i : Instr} {s : State} {o : Operand8} {op : RotOp} {v : Byte} {res : Nat} {z : Bool} {len : Word} {n : Nat}

/-- An instruction that writes an 8-bit operand and nothing else, F included (R204, R205). -/
theorem runs_writeOperand (hexec : exec i s = .next ((s.writeOperand o v).retire len n)) :
    Runs i s (s.pc + len) n fun t =>
      t.readOperand o = v ∧ t.f = s.f ∧ agreeOnRegs (operandRegs o) s t ∧ agreeOnBytes (operandBytes s o) s t ∧
      agreeOnSpAndControl s t :=
  runs_of_retire hexec (s.pc_writeOperand o v) ⟨by simp, s.f_writeOperand o v,
    agreeOnRegs_retire len n (s.agreeOnRegs_writeOperand o v), s.agreeOnBytes_writeOperand o v,
    s.agreeOnSpAndControl_writeOperand o v⟩

/-- A rotate of A leaves the value of the extended table's rotate of the same name, and always clears Z (R190 to R193). -/
theorem runs_rotateA (hexec : exec i s = rotateA op s) (hres : (rotValue op s.a s.flagC).1.toNat = res) :
    Runs i s (s.pc + 1) 4 fun t =>
      t.a.toNat = res ∧ flagsAre t false false false (rotValue op s.a s.flagC).2 ∧ agreeOnLowF s t ∧
      agreeOnRegs [.a] s t ∧ agreeOnBytes [] s t ∧ agreeOnSpAndControl s t := by
  obtain ⟨t, hnext, hpc, hcost, hout, ha, hframe⟩ := runs_setA_setFlags hexec
  exact ⟨t, hnext, hpc, hcost, hout, by rw [ha, hres], hframe⟩

/-- A row of the rotate group leaves the result and the flags that `rotValue` and `rotZero` give (R194 to R202). -/
theorem runs_rowRot (hres : (rotValue op (s.readOperand o) s.flagC).1.toNat = res)
    (hz : rotZero op (rotValue op (s.readOperand o) s.flagC).1 = z) :
    Runs (rowRot op o) s (s.pc + 2) (operandCost o 8 16) fun t =>
      (t.readOperand o).toNat = res ∧ flagsAre t z false false (rotValue op (s.readOperand o) s.flagC).2 ∧
      agreeOnLowF s t ∧ agreeOnRegs (operandRegs o) s t ∧ agreeOnBytes (operandBytes s o) s t ∧
      agreeOnSpAndControl s t := by
  obtain ⟨t, hnext, hpc, hcost, hout, hvalue, hflags, hframe⟩ := runs_writeOperand_setFlags (exec_rowRot s op o)
  rw [rotResult, hz] at hflags
  exact ⟨t, hnext, hpc, hcost, hout, by rw [hvalue, rotResult, hres], hflags, hframe⟩

end Completion

/-- Settles O51: each row is a shift of A by one place; what comes in is the bit that goes out, or the carry before. -/
theorem rotatesOfA : Obligations.RotatesOfA := by
  intro s cf post b7 b0
  refine ⟨?rlca, ?rrca, ?rla, ?rra⟩
  case rlca => exact runs_rotateA (op := .rlc) rfl (toNat_shiftLeftIn s.a b7)
  case rrca => exact runs_rotateA (op := .rrc) rfl (toNat_shiftRightIn s.a b0)
  case rla => exact runs_rotateA (op := .rl) rfl (toNat_shiftLeftIn s.a s.flagC)
  case rra => exact runs_rotateA (op := .rr) rfl (toNat_shiftRightIn s.a s.flagC)

/-- Settles O52: as for the rotates of A; `rotZero` is false for each of the four. -/
theorem extendedRotates : Obligations.ExtendedRotates := by
  intro s o v cf post b7 b0 n
  refine ⟨?rlc, ?rrc, ?rl, ?rr⟩
  case rlc => exact runs_rowRot (op := .rlc) (toNat_shiftLeftIn v b7) rfl
  case rrc => exact runs_rowRot (op := .rrc) (toNat_shiftRightIn v b0) rfl
  case rl => exact runs_rowRot (op := .rl) (toNat_shiftLeftIn v s.flagC) rfl
  case rr => exact runs_rowRot (op := .rr) (toNat_shiftRightIn v s.flagC) rfl

/-- Settles O53: SLA and SRL are shifts with 0 coming in, SRA one with bit 7 coming in; `rotZero` tests the result. -/
theorem shiftsAndSwap : Obligations.ShiftsAndSwap := by
  intro s o v post n
  have hruns {op : RotOp} {res : Nat} (hres : (rotValue op v s.flagC).1.toNat = res)
      (hz : ∀ r, rotZero op r = (r == 0)) : Runs (rowRot op o) s (s.pc + 2) n (post res (rotValue op v s.flagC).2) :=
    runs_rowRot hres (by rw [hz, byte_beq_zero, hres])
  refine ⟨?sla, ?sra, ?swap, ?srl⟩
  case sla => exact hruns (op := .sla) (toNat_shiftLeftIn v false) fun _ => rfl
  case sra =>
    have hres := toNat_shiftRightIn v (v.getLsbD 7)
    rw [toNat_bit7] at hres
    exact hruns (op := .sra) hres fun _ => rfl
  case swap => exact hruns (op := .swap) (toNat_swapNibbles v) fun _ => rfl
  case srl => exact hruns (op := .srl) (toNat_shiftRightIn v false) fun _ => rfl

/-- Settles O54: BIT writes the flags alone. -/
theorem bitTestReadsOneBit : Obligations.BitTestReadsOneBit := by
  intro s n o
  obtain ⟨t, hnext, hpc, hcost, hout, hflags, hregs, hlow, hrest⟩ := runs_setFlags (exec_rowBit s n o)
  exact ⟨t, hnext, hpc, hcost, hout, hflags, hlow, hregs, hrest⟩

/-- Settles O55: RES and SET write their operand alone, with the bits of the two lemmas on `bitMask`. -/
theorem resetAndSetOneBit : Obligations.ResetAndSetOneBit := by
  intro s n o post
  refine ⟨?res, ?set⟩
  case res =>
    obtain ⟨t, hnext, hpc, hcost, hout, hvalue, hframe⟩ := runs_writeOperand (exec_rowRes s n o)
    exact ⟨t, hnext, hpc, hcost, hout, fun k hk => by rw [hvalue, getLsbD_and_not_bitMask n _ hk], hframe⟩
  case set =>
    obtain ⟨t, hnext, hpc, hcost, hout, hvalue, hframe⟩ := runs_writeOperand (exec_rowSet s n o)
    exact ⟨t, hnext, hpc, hcost, hout, fun k _ => by rw [hvalue, getLsbD_or_bitMask], hframe⟩

end Sys2Proof.Machine

/-! The jumps, calls and returns (R210 to R221): conditions, targets, and how an instruction that only transfers control, one
that calls and one that returns end. -/

namespace Sys2Proof.Machine

/-! ## Conditions and targets -/

section Targets

variable (s : State) (cc : Cond) (pc : Word) (e8 : Byte) (y : Fin 8)

/-- The condition is that of F before the instruction (R97, R210). -/
theorem State.cond_eq_condOfF : s.cond cc = condOfF s.f cc := by cases cc <;> rfl

/-- The wrapping sum is that of the integers, modulo 2^16 (R211): sign extension is `BitVec.ofInt` of the signed byte. -/
theorem relativeTarget_eq_ofInt : pc + 2 + signExtend16 e8 = BitVec.ofInt 16 (pc.toNat + 2 + e8.toInt) := by
  rw [BitVec.ofInt_add, BitVec.ofInt_add, BitVec.ofInt_natCast, BitVec.ofNat_toNat, BitVec.setWidth_eq]
  rfl

/-- The reset vector `8 * y` does not wrap (R221). -/
theorem resetVector_eq_ofNat : (8 * BitVec.ofNat 16 y.val : Word) = BitVec.ofNat 16 (8 * y.val) :=
  (BitVec.ofNat_mul 8 y.val).symm

@[simp] theorem State.get8_goto (target : Word) (n : Nat) (r : Reg8) : (s.goto target n).get8 r = s.get8 r := by
  cases r <;> rfl

end Targets

/-! ## What a transfer of control leaves -/

/-- Every register, F, memory, SP and the control state are the same in `s` and `t`. -/
abbrev onlyPcMoved (s t : State) : Prop :=
  agreeOnRegs [] s t ∧ t.f = s.f ∧ agreeOnBytes [] s t ∧ agreeOnSpAndControl s t

/-- `t` holds `v` in the slot below the SP of `s`, and its SP is at the slot; the rest is that of `s`. -/
abbrev pushedOnto (v : Word) (s t : State) : Prop :=
  t.sp = s.sp - 2 ∧ t.read8 (s.sp - 2) = loByte v ∧ t.read8 (s.sp - 1) = hiByte v ∧
  agreeOnBytes [s.sp - 2, s.sp - 1] s t ∧ agreeOnRegs [] s t ∧ t.f = s.f ∧ agreeOnControl s t

/-- The SP of `t` is past the word on the stack of `s`; the rest but IME is that of `s`. -/
abbrev poppedFrom (s t : State) : Prop :=
  t.sp = s.sp + 2 ∧ agreeOnRegs [] s t ∧ t.f = s.f ∧ agreeOnBytes [] s t ∧ t.runState = s.runState ∧ t.fault = s.fault

section Completion

variable {i : Instr} {s u : State} {target v : Word} {n : Nat} {post : State → Prop} {taken : Prop} [Decidable taken]

/-- An instruction that ends with `goto` completes: the pc is the target, and the frame outside the CPU is that of every
instruction. -/
theorem runs_of_goto (hexec : exec i s = .next (u.goto target n)) (hpost : post (u.goto target n)) :
    Runs i s target n post :=
  ⟨_, hexec, rfl, rfl, (exec_keepsMachine s i).outside _ hexec, hpost⟩

/-- A jump (R211, R213, R215), and a conditional transfer that is not taken: it goes to the next address. -/
theorem runs_goto (hexec : exec i s = .next (s.goto target n)) : Runs i s target n (onlyPcMoved s) :=
  runs_of_goto hexec ⟨fun r _ => s.get8_goto target n r, rfl, fun _ _ => rfl, rfl, rfl, rfl, rfl⟩

/-- A call (R216, R221): the word store at the slot below SP. -/
theorem runs_push_goto (hexec : exec i s = .next ((s.push16 v).goto target n)) :
    Runs i s target n (pushedOnto v s) :=
  runs_of_goto hexec ⟨rfl, s.read8_push16_low v, s.read8_push16_high v, s.agreeOnBytes_push16 v, fun r _ => by simp, rfl,
    rfl, rfl, rfl⟩

/-- A return, which leaves IME as it is or sets it (R218, R220): the pc is the word on the stack. -/
theorem runs_pop_goto {on : Bool} (hexec : exec i s = .next (({ s.popped with ime := on } : State).goto s.popValue n)) :
    Runs i s s.popValue n fun t => poppedFrom s t ∧ t.ime = on := by
  refine runs_of_goto hexec ⟨⟨rfl, fun r _ => ?_, rfl, fun _ _ => rfl, rfl, rfl⟩, rfl⟩
  cases r <;> rfl

/-- A conditional jump goes to one of two addresses, at one of two costs (R212, R214). -/
theorem runs_goto_ite {skip : Word} {m : Nat}
    (hexec : exec i s = if taken then .next (s.goto target n) else .next (s.goto skip m)) :
    Runs i s (if taken then target else skip) (if taken then n else m) (onlyPcMoved s) := by
  by_cases h : taken
  · rw [if_pos h] at hexec
    rw [if_pos h, if_pos h]
    exact runs_goto hexec
  · rw [if_neg h] at hexec
    rw [if_neg h, if_neg h]
    exact runs_goto hexec

end Completion

/-- Settles O57: each row ends with one `goto`, the conditional ones with one of two. -/
theorem jumpsTakenAndNotTaken : Obligations.JumpsTakenAndNotTaken := by
  intro s cc e8 a16 kept relative taken
  have hrelative : s.pc + 2 + signExtend16 e8 = relative := relativeTarget_eq_ofInt s.pc e8
  have htaken : s.cond cc = taken := s.cond_eq_condOfF cc
  rw [← hrelative, ← htaken]
  refine ⟨?jr, ?jrCond, ?jp, ?jpCond, ?jpAtHL⟩
  case jr => exact runs_goto rfl
  case jrCond => exact runs_goto_ite (exec_rowJrCond s cc e8)
  case jp => exact runs_goto rfl
  case jpCond => exact runs_goto_ite (exec_rowJpCond s cc a16)
  case jpAtHL => exact runs_goto rfl

/-- Settles O58: a call pushes the next address; a conditional one is that call or goes to the next address. -/
theorem callsPushReturnAddress : Obligations.CallsPushReturnAddress := by
  intro s cc a16 y pushed kept
  have hcond := exec_rowCallCond s cc a16
  rw [callIf, s.cond_eq_condOfF cc] at hcond
  refine ⟨?call, fun htaken => ?taken, fun hskip => ?skipped, ?rst⟩
  case call => exact runs_push_goto rfl
  case taken =>
    rw [if_pos htaken] at hcond
    exact runs_push_goto hcond
  case skipped =>
    rw [if_neg (Bool.eq_false_iff.mp hskip)] at hcond
    exact runs_goto hcond
  case rst =>
    rw [← resetVector_eq_ofNat]
    exact runs_push_goto (exec_rowRst s y)

/-- Settles O59: a return pops the pc, RETI sets IME besides; a conditional one is a return or goes to the next address. -/
theorem returnsPopPc : Obligations.ReturnsPopPc := by
  intro s cc word popped kept
  have hcond := exec_rowRetCond s cc
  rw [returnIf, s.cond_eq_condOfF cc] at hcond
  refine ⟨?ret, ?reti, fun htaken => ?taken, fun hskip => ?skipped⟩
  case ret => exact runs_pop_goto (on := s.ime) rfl
  case reti => exact runs_pop_goto (on := true) rfl
  case taken =>
    rw [if_pos htaken] at hcond
    exact runs_pop_goto (on := s.ime) hcond
  case skipped =>
    rw [if_neg (Bool.eq_false_iff.mp hskip)] at hcond
    exact runs_goto hcond

end Sys2Proof.Machine

/-! The prefix byte (R104, R234): the decoder and the prefix row select the same row of the extended table. -/

namespace Sys2Proof.Machine

section Prefix

variable (s : State) (op2 b2 : Byte)

/-- The byte after the prefix alone selects the row (R93 step 3, R104). -/
theorem decodeBytes_prefix : decodeBytes 0xCB op2 b2 = decodeExt op2 := rfl

theorem exec_prefixCB : exec (.prefixCB op2) s = extendedTable op2 s := rfl

/-- The x field of the byte picks the group, in the decoder and in the meaning of the prefix row alike. -/
theorem exec_decodeExt : exec (decodeExt op2) s = extendedTable op2 s := by
  unfold decodeExt extendedTable
  generalize fieldX op2 = x
  match x with
  | 0 => exact exec_rowRot s _ _
  | 1 => exact exec_rowBit s _ _
  | 2 => exact exec_rowRes s _ _
  | 3 => exact exec_rowSet s _ _

/-- Every row of the extended table answers a next state. -/
theorem extendedTable_completes : ∃ t, extendedTable op2 s = .next t := by
  unfold extendedTable
  split
  · exact ⟨_, rfl⟩
  · exact ⟨_, rfl⟩
  · exact ⟨_, rfl⟩
  · exact ⟨_, rfl⟩

end Prefix

/-- Settles O6: the prefix row and the row decoded from its two bytes both mean `extendedTable` at the second byte, which
answers a next state. -/
theorem prefixRunsExtendedRow : Obligations.PrefixRunsExtendedRow := by
  intro op2 b2 s
  rw [decodeBytes_prefix, exec_prefixCB, exec_decodeExt]
  obtain ⟨t, hnext⟩ := extendedTable_completes s op2
  exact ⟨t, hnext, hnext⟩

end Sys2Proof.Machine

/-! Phase 1 of the step (R240, R242, R250 to R255): the pending set, the wake, and what taking an interrupt leaves. -/

namespace Sys2Proof.Machine

/-! ## The pending set and its least source -/

/-- Bits 7:5 of IF and IE are masked out (R251). -/
theorem State.getLsbD_pending (s : State) (k : Nat) :
    s.pending.getLsbD k =
      (decide (k < 5) && (s.read8 Config.ifAddr).getLsbD k && (s.read8 Config.ieAddr).getLsbD k) := by
  have hmask : (0x1F : Byte).getLsbD k = decide (k < 5) := by
    by_cases hk : k < 8
    · interval_cases k <;> rfl
    · rw [BitVec.getLsbD_of_ge _ _ (by omega), decide_eq_false (by omega)]
  rw [State.pending, BitVec.getLsbD_and, BitVec.getLsbD_and, hmask, Bool.and_comm, ← Bool.and_assoc]

/-- A set that is not empty has one of the five sources in it (R251). -/
theorem State.exists_pending_source {s : State} (h : s.pending ≠ 0) : ∃ k < 5, s.pending.getLsbD k = true := by
  by_contra hnone
  push Not at hnone
  refine h (BitVec.eq_of_getLsbD_eq fun k _ => ?_)
  by_cases hk : k < 5
  · simpa using hnone k hk
  · simp [s.getLsbD_pending, hk]

/-- `leastSource` finds the least source of a set that has one (R253). -/
theorem leastSource_isLeast {pend : Byte} (h : ∃ k < 5, pend.getLsbD k = true) :
    pend.getLsbD (leastSource pend) = true ∧ ∀ j < leastSource pend, pend.getLsbD j = false := by
  have hbelow (n : Nat) (hlow : ∀ j < n, ¬ pend.getLsbD j = true) : ∀ j < n, pend.getLsbD j = false :=
    fun j hj => Bool.eq_false_iff.mpr (hlow j hj)
  unfold leastSource
  split
  · next h0 => exact ⟨h0, by simp⟩
  split
  · next h0 h1 => exact ⟨h1, hbelow 1 fun j hj => by interval_cases j; assumption⟩
  split
  · next h0 h1 h2 => exact ⟨h2, hbelow 2 fun j hj => by interval_cases j <;> assumption⟩
  split
  · next h0 h1 h2 h3 => exact ⟨h3, hbelow 3 fun j hj => by interval_cases j <;> assumption⟩
  · next h0 h1 h2 h3 =>
    have hlow : ∀ j < 4, ¬ pend.getLsbD j = true := fun j hj => by interval_cases j <;> assumption
    obtain ⟨k, hk, hset⟩ := h
    have hk4 : k = 4 := by
      by_contra hne
      exact hlow k (by omega) hset
    exact ⟨hk4 ▸ hset, hbelow 4 hlow⟩

/-! ## Phase 1 -/

section InterruptCheck

variable (s : State) (i : Nat) (addr : Word)

/-- The wake writes the run-state alone (R242). -/
theorem State.wake_eq :
    s.wake = { s with runState := if s.runState = .halted ∧ s.pending ≠ 0 then .running else s.runState } := by
  unfold State.wake
  split
  · rfl
  · rfl

/-- The dispatch condition (R252). -/
theorem State.dispatches_iff : s.dispatches = true ↔ s.ime = true ∧ s.pending ≠ 0 := by
  rw [State.dispatches, Bool.and_eq_true, bne_iff_ne]

theorem State.interruptCheck_of_dispatch (hime : s.ime = true) (hpend : s.pending ≠ 0) :
    s.interruptCheck = s.wake.takeInterrupt (leastSource s.pending) :=
  if_pos (s.dispatches_iff.mpr ⟨hime, hpend⟩)

/-- Taking an interrupt writes two slots: the pushed pc, then the source's bit of IF, which the push may have written
(R254). -/
theorem State.read8_takeInterrupt :
    (s.takeInterrupt i).read8 addr =
      if addr = Config.ifAddr then byteAfterStore16 s (s.sp - 2) s.pc Config.ifAddr &&& ~~~((1 : Byte) <<< i)
      else byteAfterStore16 s (s.sp - 2) s.pc addr := by
  have hpush (a : Word) : (s.push16 s.pc).read8 a = byteAfterStore16 s (s.sp - 2) s.pc a := by
    have hne := succ_ne_self (s.sp - 2)
    rw [State.read8_push16]
    by_cases ha : a = s.sp - 2
    · rw [if_neg (ha ▸ hne.symm), if_pos ha, byteAfterStore16, if_pos ha]
    · rw [if_neg ha, byteAfterStore16, if_neg ha]
  rw [← hpush, ← hpush]
  exact State.read8_clearFlag _ _ _ _

theorem State.agreeOutsideCpu_interruptCheck : agreeOutsideCpu s s.interruptCheck := by
  refine agreeOutsideCpu_of_same ?_
  rw [State.interruptCheck, State.wake_eq]
  split
  · rfl
  · rfl

end InterruptCheck

/-- Settles O11: the bits of the pending set, and the least of them. -/
theorem lowestPendingSourceIsDispatched : Obligations.LowestPendingSourceIsDispatched := by
  intro s
  refine ⟨s.getLsbD_pending, fun hpend => ?_⟩
  obtain ⟨hset, hlow⟩ := leastSource_isLeast (State.exists_pending_source hpend)
  exact ⟨hset, hlow, fun hime => s.interruptCheck_of_dispatch hime hpend⟩

/-- Settles O10: with IME set and something pending phase 1 is the wake and then the taking of the source; the wake
writes the run-state alone. -/
theorem interruptEntrySavesPcAndVectors : Obligations.InterruptEntrySavesPcAndVectors := by
  intro s hime hpend t i
  have hout : agreeOutsideCpu s t := s.agreeOutsideCpu_interruptCheck
  have htake : t = State.takeInterrupt
      { s with runState := if s.runState = .halted ∧ s.pending ≠ 0 then .running else s.runState } i := by
    rw [← s.wake_eq]
    exact s.interruptCheck_of_dispatch hime hpend
  have hbyte (addr : Word) : t.read8 addr =
      if addr = Config.ifAddr then byteAfterStore16 s (s.sp - 2) s.pc Config.ifAddr &&& ~~~((1 : Byte) <<< i)
      else byteAfterStore16 s (s.sp - 2) s.pc addr := by
    rw [htake]
    exact State.read8_takeInterrupt _ i addr
  refine ⟨?pc, ?ime, ?sp, fun addr hne => ?bytes, ?ifByte, fun r _ => ?regs, ?f, ?fault, ?cycles, hout, ?runState⟩
  case bytes => rw [hbyte, if_neg hne]
  case ifByte => rw [hbyte, if_pos rfl]
  case regs => rw [htake]; cases r <;> rfl
  case runState => rw [htake]; exact if_congr (and_iff_left hpend) rfl rfl
  all_goals rw [htake]; rfl

end Sys2Proof.Machine

/-! The undefined-instruction exception within a step (R235, R240, R262). -/

namespace Sys2Proof.Machine

/-- Each undefined opcode, whatever follows it, decodes to its own row, which raises the exception (R105, R235). -/
theorem exec_decodeBytes_undefined {op : Byte} (h : op ∈ undefinedRows.map Prod.fst) (b1 b2 : Byte) (s : State) :
    exec (decodeBytes op b1 b2) s = undefinedOpcode op s := by
  simp only [undefinedRows, List.map_cons, List.map_nil, List.mem_cons, List.not_mem_nil, or_false] at h
  rcases h with rfl | rfl | rfl | rfl | rfl | rfl | rfl | rfl | rfl | rfl | rfl <;> rfl

theorem step_eq_activeStep {s : State} (h : s.canStep) : step s = s.activeStep := by
  obtain ⟨hhost, hrunning | hhalted⟩ := h
  · simp only [step, schedulerStep, if_pos hhost, hrunning]
  · simp only [step, schedulerStep, if_pos hhost, hhalted]

/-- A step whose phase 1 leaves the machine Running goes on to the instruction (R240). -/
theorem State.activeStep_of_running {s : State} (h : s.beginStep.interruptCheck.runState = .running) :
    s.activeStep = s.beginStep.interruptCheck.runInstruction s.dispatches := by
  simp only [State.activeStep, h]

/-- An instruction that enters Faulted ends the step at once; only the host's turn comes after it (R246, R262). -/
theorem State.runInstruction_of_faulted {s t : State} (hexec : exec s.fetch s = .next t)
    (hfault : t.runState = .faulted) (dispatched : Bool) : s.runInstruction dispatched = .next t.hostTurn := by
  simp only [State.runInstruction, hexec, if_pos hfault]

/-- Settles O14: the step ends in `raiseUndefined` of the state after phase 1, which leaves everything outside the CPU
as it was when the step began. -/
theorem undefinedOpcodeEntersFaulted : Obligations.UndefinedOpcodeEntersFaulted := by
  intro s hstep v hrunning hop
  have hexec : exec v.fetch v = .next (v.raiseUndefined (v.read8 v.pc)) := exec_decodeBytes_undefined hop _ _ v
  have hanswer : step s = .next (v.raiseUndefined (v.read8 v.pc)).hostTurn := by
    rw [step_eq_activeStep hstep, State.activeStep_of_running hrunning]
    exact State.runInstruction_of_faulted hexec rfl _
  have hout : agreeOutsideCpu s.beginStep v := s.beginStep.agreeOutsideCpu_interruptCheck
  obtain ⟨htStep, hmStep, htTotal, hmTotal, hclock, hprevH, hprevV, hon, hfb, hbases, hhost, hinput, hcycles, hevent⟩ :=
    hout
  refine ⟨_, hanswer, rfl, rfl, rfl, rfl, rfl, rfl, fun r _ => ?regs, fun _ _ => rfl, hcycles, htStep, hmStep, htTotal,
    hmTotal, hclock, hprevH, hprevV, hon, hfb, hbases, hevent, hhost, hinput⟩
  cases r <;> rfl

end Sys2Proof.Machine

/-! The video timing engine (R270 to R277): a tick with the display off, the position that a tick with the display on
shows, and the position after a step. -/

namespace Sys2Proof.Machine

/-! ## The tick, and the display off -/

section DisplayOff

variable {s : State}

/-- The LCD-enable bit is a bit of memory (R41). -/
theorem State.lcdEnabled_congr {t : State} (h : t.read8 Config.lcdcAddr = s.read8 Config.lcdcAddr) :
    t.lcdEnabled = s.lcdEnabled := by
  rw [State.lcdEnabled, State.lcdEnabled, h]

theorem State.videoTick_of_lcdEnabled (h : s.lcdEnabled = true) (n : Nat) : s.videoTick n = s.displayOnTick n :=
  if_pos h

theorem State.videoTick_of_not_lcdEnabled (h : s.lcdEnabled = false) (n : Nat) : s.videoTick n = s.displayOffTick :=
  if_neg (Bool.eq_false_iff.mp h)

/-- A later tick with the display off changes nothing (R271). -/
theorem State.displayOffTick_of_off (h : s.displayOn = false) : s.displayOffTick = s :=
  if_neg (Bool.eq_false_iff.mp h)

/-- The first tick with the display off (R271). -/
theorem State.displayOffTick_of_on (h : s.displayOn = true) :
    s.displayOffTick =
      { s with internalClock := 0, prevHorizontalClock := 0, prevVerticalClock := 0, fb := [], displayOn := false } :=
  if_pos h

variable (s)

/-- Either tick leaves memory and the base addresses, and the display recorded as off. -/
theorem State.displayOffTick_frame :
    s.displayOffTick.mem = s.mem ∧ s.displayOffTick.bgBases = s.bgBases ∧ s.displayOffTick.displayOn = false := by
  cases h : s.displayOn with
  | true => rw [State.displayOffTick_of_on h]; exact ⟨rfl, rfl, rfl⟩
  | false => rw [State.displayOffTick_of_off h]; exact ⟨rfl, rfl, h⟩

theorem State.lcdEnabled_displayOffTick : s.displayOffTick.lcdEnabled = s.lcdEnabled :=
  State.lcdEnabled_congr (State.read8_congr s.displayOffTick_frame.1 _)

end DisplayOff

/-- Settles O32: both ticks are `displayOffTick`, and the second finds the display recorded as off. -/
theorem displayOffClearsOnce : Obligations.DisplayOffClearsOnce := by
  intro s n m (hoff : s.lcdEnabled = false) t
  have ht : t = s.displayOffTick := State.videoTick_of_not_lcdEnabled hoff n
  obtain ⟨hmem, hbases, hon⟩ := s.displayOffTick_frame
  rw [ht]
  refine ⟨fun addr _ => State.read8_congr hmem addr, hbases, hon, ?offTick, State.displayOffTick_of_off,
    fun hdisplay => ?onTick⟩
  case offTick =>
    rw [State.videoTick_of_not_lcdEnabled (s.lcdEnabled_displayOffTick.trans hoff), State.displayOffTick_of_off hon]
  case onTick =>
    rw [State.displayOffTick_of_on hdisplay]
    exact ⟨rfl, rfl, rfl, fun _ _ => rfl⟩

/-! ## The display on -/

/-- `t` is at the frame position `clock`: the clock, the previous values, LY and STAT bits 1:0 (R272, R273, R275,
R277). -/
abbrev State.showsPosition (t : State) (clock : Nat) : Prop :=
  t.displayOn = true ∧ t.internalClock = clock ∧ t.prevHorizontalClock = horizontalOf clock ∧
  t.prevVerticalClock = verticalOf clock ∧ t.read8 Config.lyAddr = BitVec.ofNat 8 (verticalOf clock) ∧
  t.read8 Config.statAddr &&& 0x03 = displayMode (horizontalOf clock) (verticalOf clock)

theorem toNat_displayMode (horizontal vertical : Nat) :
    (displayMode horizontal vertical).toNat =
      if vertical > 144 then 1 else if horizontal < 21 then 2 else if horizontal < 64 then 3 else 0 := by
  unfold displayMode
  split_ifs <;> rfl

/-- Recording the mode in the two low bits, cleared before, makes them the mode (R275). -/
theorem recorded_mode (v : Byte) (horizontal vertical : Nat) :
    ((v &&& ~~~0x03) ||| displayMode horizontal vertical) &&& 0x03 = displayMode horizontal vertical := by
  have hlow : displayMode horizontal vertical &&& 0x03 = displayMode horizontal vertical := by
    unfold displayMode
    split_ifs <;> rfl
  have hcleared : v &&& ~~~0x03 &&& 0x03 = 0 := by
    rw [BitVec.and_assoc, show (~~~0x03 &&& 0x03 : Byte) = 0 from rfl]
    exact BitVec.and_zero
  rw [BitVec.and_or_distrib_right, hcleared, hlow]
  exact BitVec.zero_or

/-- The line of a frame position is 1 to 154 (R272), so LY holds it. -/
theorem verticalOf_range {clock : Nat} (h : clock < Config.frameClocks) :
    1 ≤ verticalOf clock ∧ verticalOf clock ≤ 154 := by
  have hclock : clock < 17556 := h
  have hvertical : verticalOf clock = clock / 114 + 1 := rfl
  omega

section DisplayOn

variable (s : State) (n : Nat)

theorem State.displayOnTick_showsPosition :
    (s.displayOnTick n).showsPosition ((s.internalClock + n) % Config.frameClocks) := by
  have hshape := s.displayOnTick_eq n
  refine ⟨?on, ?clock, ?prevH, ?prevV, ?scanline, ?mode⟩
  case scanline => rw [State.read8_displayOnTick]; rfl
  case mode => rw [State.read8_displayOnTick]; exact recorded_mode _ _ _
  all_goals rw [hshape]

theorem State.lcdEnabled_displayOnTick : (s.displayOnTick n).lcdEnabled = s.lcdEnabled := by
  refine State.lcdEnabled_congr ?_
  rw [State.read8_displayOnTick]
  rfl

/-- A tick leaves LCDC, so one that ends with the display on is a tick with the display on. -/
theorem State.videoTick_showsPosition (h : (s.videoTick n).lcdEnabled = true) :
    (s.videoTick n).showsPosition ((s.internalClock + n) % Config.frameClocks) := by
  cases hlcd : s.lcdEnabled with
  | true =>
    rw [State.videoTick_of_lcdEnabled hlcd]
    exact s.displayOnTick_showsPosition n
  | false =>
    rw [State.videoTick_of_not_lcdEnabled hlcd, State.lcdEnabled_displayOffTick, hlcd] at h
    cases h

end DisplayOn

/-! ## The position after a step -/

section HostTurn

variable (s : State)

/-- The host's turn writes memory and the host's side only (R246). -/
theorem State.hostTurn_eq :
    s.hostTurn =
      { s with running := s.hostTurn.running, hostInput := s.hostTurn.hostInput, mem := s.hostTurn.mem } := by
  unfold State.hostTurn
  split
  · rfl
  · next turn rest _ =>
    cases turn with
    | stop => rfl
    | collect joyp raiseJoypad =>
      simp only [State.applyTurn]
      rw [State.collectInput_eq]

/-- Of memory it writes at most JOYP and IF (R246). -/
theorem State.agreeOnBytes_hostTurn : agreeOnBytes [Config.joypAddr, Config.ifAddr] s s.hostTurn := by
  intro addr haddr
  obtain ⟨hjoyp, hif⟩ : addr ≠ Config.joypAddr ∧ addr ≠ Config.ifAddr := by simpa using haddr
  unfold State.hostTurn
  split
  · rfl
  · next turn rest _ =>
    cases turn with
    | stop => rfl
    | collect joyp raiseJoypad =>
      refine (State.read8_collectInput _ joyp raiseJoypad addr).trans ?_
      rw [if_neg hif, if_neg hjoyp]
      rfl

theorem State.lcdEnabled_hostTurn : s.hostTurn.lcdEnabled = s.lcdEnabled :=
  State.lcdEnabled_congr (s.agreeOnBytes_hostTurn _ (by decide))

variable {s}

theorem State.showsPosition_hostTurn {clock : Nat} (h : s.showsPosition clock) : s.hostTurn.showsPosition clock := by
  obtain ⟨hon, hclock, hprevH, hprevV, hscanline, hmode⟩ := h
  have hshape := s.hostTurn_eq
  refine ⟨?on, ?clock, ?prevH, ?prevV, ?scanline, ?mode⟩
  case on => rw [hshape]; exact hon
  case clock => rw [hshape]; exact hclock
  case prevH => rw [hshape]; exact hprevH
  case prevV => rw [hshape]; exact hprevV
  case scanline => rw [s.agreeOnBytes_hostTurn _ (by decide)]; exact hscanline
  case mode => rw [s.agreeOnBytes_hostTurn _ (by decide)]; exact hmode

end HostTurn

/-- A tick leaves the cost of the step (R30). -/
theorem State.mStep_videoTick (s : State) (n : Nat) : (s.videoTick n).mStep = s.mStep := by
  cases hlcd : s.lcdEnabled with
  | true => rw [State.videoTick_of_lcdEnabled hlcd, State.displayOnTick_eq]
  | false =>
    rw [State.videoTick_of_not_lcdEnabled hlcd]
    cases hon : s.displayOn with
    | true => rw [State.displayOffTick_of_on hon]
    | false => rw [State.displayOffTick_of_off hon]

/-- Phases 3 and 4 advance the position by the machine cycles of the step, and the host's turn leaves it (R240,
R246). -/
theorem State.finishStep_showsPosition (u : State) (dispatched : Bool) (n : Nat)
    (h : (u.finishStep dispatched n).lcdEnabled = true) :
    (u.finishStep dispatched n).showsPosition
      ((u.internalClock + (u.finishStep dispatched n).mStep) % Config.frameClocks) := by
  set cost := n + dispatchCost dispatched
  set ticked := (u.accumulate cost).videoTick (cost / Config.tPerM) with hticked
  have hfinish : u.finishStep dispatched n = ticked.hostTurn := rfl
  have hcycles : ticked.hostTurn.mStep = cost / Config.tPerM := by
    rw [State.hostTurn_eq, hticked]
    exact State.mStep_videoTick _ _
  rw [hfinish, State.lcdEnabled_hostTurn] at h
  rw [hfinish, hcycles]
  exact State.showsPosition_hostTurn (State.videoTick_showsPosition _ _ h)

/-- A step that does not fault ends with phases 3 and 4 and the host's turn, from a state with the frame clock of the
step's beginning: neither phase 1 nor an instruction moves it (R240). -/
theorem step_finishes {s t : State} (h : step s = .next t) (hsafe : t.safe) :
    ∃ (u : State) (dispatched : Bool) (n : Nat), t = u.finishStep dispatched n ∧ u.internalClock = s.internalClock := by
  obtain ⟨_, _, hcases⟩ := step_cases h
  have hphase1 : s.beginStep.interruptCheck.internalClock = s.internalClock := by
    obtain ⟨_, _, _, _, hclock, _⟩ := s.beginStep.agreeOutsideCpu_interruptCheck
    exact hclock
  rcases hcases with ⟨_, rfl⟩ | ⟨_, u, hexec, ⟨hfault, rfl⟩ | ⟨_, rfl⟩⟩
  · exact ⟨_, _, _, rfl, hphase1⟩
  · refine absurd ?_ hsafe
    rw [State.hostTurn_eq]
    exact hfault
  · obtain ⟨_, _, _, _, hclock, _⟩ := (exec_keepsMachine _ _).outside u hexec
    exact ⟨u, _, _, rfl, hclock.trans hphase1⟩

/-- Settles O29: the position that the step's tick shows, with LY and the mode as numbers. -/
theorem displayPositionAfterStep : Obligations.DisplayPositionAfterStep := by
  intro s t hstep hsafe (hlcd : t.lcdEnabled = true) horizontal vertical
  obtain ⟨u, dispatched, n, rfl, hu⟩ := step_finishes hstep hsafe
  obtain ⟨hon, hclock, hprevH, hprevV, hscanline, hmode⟩ := u.finishStep_showsPosition dispatched n hlcd
  set t := u.finishStep dispatched n
  rw [hu] at hclock
  rw [hu, ← hclock] at hprevH hprevV hscanline hmode
  have hrange : t.internalClock < Config.frameClocks := by
    rw [hclock]
    exact Nat.mod_lt _ (by decide)
  obtain ⟨hfirst, hlast⟩ : 1 ≤ vertical ∧ vertical ≤ 154 := verticalOf_range hrange
  refine ⟨hon, hclock, hfirst, hlast, ?scanline, hprevH, hprevV, ?mode⟩
  case scanline =>
    rw [hscanline, BitVec.toNat_ofNat]
    exact Nat.mod_eq_of_lt (lt_of_le_of_lt hlast (by decide))
  case mode =>
    rw [hmode]
    exact toNat_displayMode _ _

end Sys2Proof.Machine

/-! Encoding and decoding (R90 to R107): the encoder's bytes are what the decoder reads, row by row.
The lengths, the encoder's answer on every opcode and the undefined opcodes follow. -/

namespace Sys2Proof

/-- The eight operand codes (R94), for `cases o using Operand8.code_cases`. -/
theorem Operand8.code_cases {P : Operand8 → Prop} (b : P (.reg .b)) (c : P (.reg .c)) (d : P (.reg .d))
    (e : P (.reg .e)) (h : P (.reg .h)) (l : P (.reg .l)) (atHL : P .atHL) (a : P (.reg .a)) : ∀ o, P o
  | .reg .b => b
  | .reg .c => c
  | .reg .d => d
  | .reg .e => e
  | .reg .h => h
  | .reg .l => l
  | .atHL => atHL
  | .reg .a => a

/-! ## What the decoder reads from a list of bytes -/

section Decode

variable {op b1 : Byte} {i : Instr} (rest : List Byte)

/-- The decoder's one success: the bytes that the length rule asks for are there (R93). -/
theorem decode_cons (h : instrLength op ≤ rest.length + 1) :
    decode (op :: rest) =
      .ok (decodeBytes op (rest.getD 0 0) (rest.getD 1 0), rest.drop (instrLength op - 1)) :=
  if_neg (Nat.not_lt.mpr h)

/-- A list that decodes holds the bytes that the length rule asks for, and leaves those after them. -/
theorem decode_eq_ok {left : List Byte} (h : decode (op :: rest) = .ok (i, left)) :
    instrLength op ≤ rest.length + 1 ∧ decodeBytes op (rest.getD 0 0) (rest.getD 1 0) = i ∧
    rest.drop (instrLength op - 1) = left := by
  by_cases hlen : instrLength op ≤ rest.length + 1
  · rw [decode_cons rest hlen] at h
    cases h
    exact ⟨hlen, rfl, rfl⟩
  · have herror : decode (op :: rest) = .error (.truncated op) := if_pos (Nat.lt_of_not_le hlen)
    rw [herror] at h
    cases h

theorem decode_oneByte (hlen : instrLength op = 1) (hread : ∀ b1 b2, decodeBytes op b1 b2 = i) :
    decode ([op] ++ rest) = .ok (i, rest) := by
  refine (decode_cons rest (by omega)).trans ?_
  rw [hread, hlen, Nat.sub_self, List.drop_zero]

theorem decode_twoBytes (hlen : instrLength op = 2) (hread : ∀ b2, decodeBytes op b1 b2 = i) :
    decode ([op, b1] ++ rest) = .ok (i, rest) := by
  refine (decode_cons (b1 :: rest) (by rw [hlen, List.length_cons]; omega)).trans ?_
  rw [hlen]
  exact congrArg (fun j => Except.ok (j, rest)) (hread _)

/-- A two-byte operand is the little-endian word that the two bytes join to (R91, R99). -/
theorem decode_wordOperand {row : Word → Instr} (hlen : instrLength op = 3)
    (hread : ∀ lo hi, decodeBytes op lo hi = row (joinBytes hi lo)) (w : Word) :
    decode ([op, loByte w, hiByte w] ++ rest) = .ok (row w, rest) := by
  refine (decode_cons (loByte w :: hiByte w :: rest) (by rw [hlen, List.length_cons, List.length_cons]; omega)).trans ?_
  rw [hlen]
  exact congrArg (fun j => Except.ok (j, rest)) ((hread _ _).trans (congrArg row (Machine.joinBytes_halves w)))

end Decode

/-- Settles O1, row by row: the length rule gives the number of bytes of the row's format, and the code tables give the
row back from the fields of its opcode. -/
theorem decodeReadsBackEncode : Obligations.DecodeReadsBackEncode := by
  intro i rest hwf
  induction i using Instr.row_cases with
  | ld dst src _ =>
    cases dst using Operand8.code_cases <;> cases src using Operand8.code_cases <;>
      exact decode_oneByte rest rfl fun _ _ => rfl
  | ldImm o d8 => cases o using Operand8.code_cases <;> exact decode_twoBytes rest rfl fun _ => rfl
  | storeA ia => cases ia <;> exact decode_oneByte rest rfl fun _ _ => rfl
  | loadA ia => cases ia <;> exact decode_oneByte rest rfl fun _ _ => rfl
  | inc o => cases o using Operand8.code_cases <;> exact decode_oneByte rest rfl fun _ _ => rfl
  | dec o => cases o using Operand8.code_cases <;> exact decode_oneByte rest rfl fun _ _ => rfl
  | alu op o => cases op <;> cases o using Operand8.code_cases <;> exact decode_oneByte rest rfl fun _ _ => rfl
  | aluImm op d8 => cases op <;> exact decode_twoBytes rest rfl fun _ => rfl
  | ldPair p d16 => cases p <;> exact decode_wordOperand rest rfl (fun _ _ => rfl) d16
  | addHL p => cases p <;> exact decode_oneByte rest rfl fun _ _ => rfl
  | incPair p => cases p <;> exact decode_oneByte rest rfl fun _ _ => rfl
  | decPair p => cases p <;> exact decode_oneByte rest rfl fun _ _ => rfl
  | push p => cases p <;> exact decode_oneByte rest rfl fun _ _ => rfl
  | pop p => cases p <;> exact decode_oneByte rest rfl fun _ _ => rfl
  | jrCond cc e8 => cases cc <;> exact decode_twoBytes rest rfl fun _ => rfl
  | jpCond cc a16 => cases cc <;> exact decode_wordOperand rest rfl (fun _ _ => rfl) a16
  | callCond cc a16 => cases cc <;> exact decode_wordOperand rest rfl (fun _ _ => rfl) a16
  | retCond cc => cases cc <;> exact decode_oneByte rest rfl fun _ _ => rfl
  | rst y => fin_cases y <;> exact decode_oneByte rest rfl fun _ _ => rfl
  | rot op o => cases op <;> cases o using Operand8.code_cases <;> exact decode_twoBytes rest rfl fun _ => rfl
  | bit n o => fin_cases n <;> cases o using Operand8.code_cases <;> exact decode_twoBytes rest rfl fun _ => rfl
  | res n o => fin_cases n <;> cases o using Operand8.code_cases <;> exact decode_twoBytes rest rfl fun _ => rfl
  | set n o => fin_cases n <;> cases o using Operand8.code_cases <;> exact decode_twoBytes rest rfl fun _ => rfl
  | prefixCB op2 => cases hwf
  | stop pad => exact decode_twoBytes rest rfl fun _ => rfl
  | jrE8 e8 => exact decode_twoBytes rest rfl fun _ => rfl
  | ldhAtA8A a8 => exact decode_twoBytes rest rfl fun _ => rfl
  | ldhAAtA8 a8 => exact decode_twoBytes rest rfl fun _ => rfl
  | addSPE8 e8 => exact decode_twoBytes rest rfl fun _ => rfl
  | ldHLSPE8 e8 => exact decode_twoBytes rest rfl fun _ => rfl
  | ldAtA16SP a16 => exact decode_wordOperand rest rfl (fun _ _ => rfl) a16
  | jpA16 a16 => exact decode_wordOperand rest rfl (fun _ _ => rfl) a16
  | callA16 a16 => exact decode_wordOperand rest rfl (fun _ _ => rfl) a16
  | ldAtA16A a16 => exact decode_wordOperand rest rfl (fun _ _ => rfl) a16
  | ldAAtA16 a16 => exact decode_wordOperand rest rfl (fun _ _ => rfl) a16
  | _ => exact decode_oneByte rest rfl fun _ _ => rfl

/-! ## The bytes that the encoder writes -/

theorem instrLength_pos : ∀ op : Byte, 1 ≤ instrLength op := by decide

/-- The PREFIX row is the one term that is not well formed (R107). -/
theorem Instr.wellFormed_or_prefix (i : Instr) : i.wellFormed = true ∨ ∃ op2, i = .prefixCB op2 := by
  unfold Instr.wellFormed
  split
  · exact .inr ⟨_, rfl⟩
  · exact .inl rfl

/-- A list that decodes and leaves nothing has exactly the bytes that the length rule asks for. -/
theorem length_of_decode_nil {bytes : List Byte} {i : Instr} (h : decode bytes = .ok (i, [])) :
    bytes.length = instrLength (bytes.headD 0) := by
  cases bytes with
  | nil => cases h
  | cons op rest =>
    obtain ⟨hlen, -, hdrop⟩ := decode_eq_ok rest h
    have hle : rest.length ≤ instrLength op - 1 := List.drop_eq_nil_iff.mp hdrop
    have hpos := instrLength_pos op
    rw [List.length_cons, List.headD_cons]
    omega

theorem length_encode (i : Instr) : (encode i).length = instrLength ((encode i).headD 0) := by
  obtain hwf | ⟨op2, rfl⟩ := i.wellFormed_or_prefix
  · have hdecode := decodeReadsBackEncode i [] hwf
    rw [List.append_nil] at hdecode
    exact length_of_decode_nil hdecode
  · have hbytes : encode (.prefixCB op2) = [0xCB, op2] := rfl
    have hlen : instrLength 0xCB = 2 := rfl
    rw [hbytes]
    exact hlen.symm

/-- Settles O3: every encoding has the length that the rule gives for its first byte. -/
theorem lengthIsFunctionOfFirstByte : Obligations.LengthIsFunctionOfFirstByte := by
  intro i j hhead
  have hfirst : (encode i).headD 0 = (encode j).headD 0 := by
    rw [List.headD_eq_head?_getD, List.headD_eq_head?_getD, hhead]
  refine ⟨?_, length_encode i⟩
  rw [length_encode i, length_encode j, hfirst]

/-! ## Every opcode, by its fields -/

/-- The opcode with the fields x, y and z (R92). -/
def opcodeOf (x : Fin 4) (y z : Fin 8) : Byte := BitVec.ofNat 8 (64 * x.val + 8 * y.val + z.val)

theorem opcodeOf_fields : ∀ op : Byte, opcodeOf (fieldX op) (fieldY op) (fieldZ op) = op := by decide

theorem fields_opcodeOf : ∀ (x : Fin 4) (y z : Fin 8),
    fieldX (opcodeOf x y z) = x ∧ fieldY (opcodeOf x y z) = y ∧ fieldZ (opcodeOf x y z) = z := by decide

/-- The second byte of every row of the extended table (R104). -/
theorem encode_decodeExt : ∀ op2 : Byte, encode (decodeExt op2) = [0xCB, op2] := by decide

section Rows

variable (y z : Fin 8) (w : Word)

/-- The opcode of every row of the base table, x = 0 (R100), and the operand bytes in their order. -/
theorem encode_decodeX0 :
    encode (decodeX0 (opcodeOf 0 y z) (loByte w) (hiByte w)) =
      [opcodeOf 0 y z, loByte w, hiByte w].take (instrLength (opcodeOf 0 y z)) := by
  rw [decodeX0, Machine.joinBytes_halves]
  fin_cases y <;> fin_cases z <;> rfl

/-- As for x = 0 (R103, R105); the opcode 0xCB stands before an extended row. -/
theorem encode_decodeX3 :
    encode (decodeX3 (opcodeOf 3 y z) (loByte w) (hiByte w)) =
      [opcodeOf 3 y z, loByte w, hiByte w].take (instrLength (opcodeOf 3 y z)) := by
  rw [decodeX3, Machine.joinBytes_halves]
  fin_cases y <;> fin_cases z
  -- The goals count the opcodes from 0xC0, so the twelfth is that of 0xCB.
  on_goal 12 => exact encode_decodeExt (loByte w)
  all_goals rfl

theorem encode_rowLd :
    encode (rowLd (operandCode y) (operandCode z)) =
      [opcodeOf 1 y z, loByte w, hiByte w].take (instrLength (opcodeOf 1 y z)) := by
  fin_cases y <;> fin_cases z <;> rfl

theorem encode_rowAlu :
    encode (rowAlu (aluCode y) (operandCode z)) =
      [opcodeOf 2 y z, loByte w, hiByte w].take (instrLength (opcodeOf 2 y z)) := by
  fin_cases y <;> fin_cases z <;> rfl

end Rows

section Opcodes

variable (op b1 b2 : Byte)

theorem encode_decodeBytes : encode (decodeBytes op b1 b2) = [op, b1, b2].take (instrLength op) := by
  obtain ⟨x, y, z, rfl⟩ : ∃ x y z, opcodeOf x y z = op := ⟨_, _, _, opcodeOf_fields op⟩
  obtain ⟨w, rfl, rfl⟩ : ∃ w, loByte w = b1 ∧ hiByte w = b2 :=
    ⟨joinBytes b2 b1, Machine.loByte_joinBytes b2 b1, Machine.hiByte_joinBytes b2 b1⟩
  obtain ⟨hx, hy, hz⟩ := fields_opcodeOf x y z
  rw [decodeBytes, hx, hy, hz]
  match x with
  | 0 => exact encode_decodeX0 y z w
  | 1 => exact encode_rowLd y z w
  | 2 => exact encode_rowAlu y z w
  | 3 => exact encode_decodeX3 y z w

theorem wellFormed_decodeExt : ∀ op2 : Byte, (decodeExt op2).wellFormed = true := by decide

theorem head?_encode_decodeBytes : (encode (decodeBytes op b1 b2)).head? = some op := by
  have hpos := instrLength_pos op
  rw [encode_decodeBytes, List.head?_take, if_neg (by omega)]
  rfl

/-- The PREFIX row is encoded with the byte 0xCB first, and after 0xCB the decoder answers an extended row. -/
theorem wellFormed_decodeBytes : (decodeBytes op b1 b2).wellFormed = true := by
  obtain hwf | ⟨op2, hprefix⟩ := (decodeBytes op b1 b2).wellFormed_or_prefix
  · exact hwf
  · have hhead := head?_encode_decodeBytes op b1 b2
    rw [hprefix] at hhead
    cases hhead
    exact wellFormed_decodeExt b1

end Opcodes

/-- Settles O2. An instruction whose encoding begins the three bytes is decoded from them, by O1. -/
theorem encodeReadsBackDecode : Obligations.EncodeReadsBackDecode := by
  intro op b1 b2
  refine ⟨wellFormed_decodeBytes op b1 b2, encode_decodeBytes op b1 b2, fun i hwf hprefix => ?_⟩
  obtain ⟨rest, hrest⟩ := hprefix
  have hdecode := decodeReadsBackEncode i rest hwf
  rw [hrest] at hdecode
  obtain ⟨-, hread, -⟩ := decode_eq_ok [b1, b2] hdecode
  exact hread.symm

/-! ## The undefined opcodes -/

theorem decodeBytes_undefined {row : Byte × Instr} (h : row ∈ Machine.undefinedRows) (b1 b2 : Byte) :
    decodeBytes row.1 b1 b2 = row.2 := by
  simp only [Machine.undefinedRows, List.mem_cons, List.not_mem_nil, or_false] at h
  rcases h with rfl | rfl | rfl | rfl | rfl | rfl | rfl | rfl | rfl | rfl | rfl <;> rfl

/-- Settles O4: each opcode of the table decodes to its row, and a row of the table is encoded as its opcode alone. -/
theorem undefinedOpcodesAreExactlyEleven : Obligations.UndefinedOpcodesAreExactlyEleven := by
  intro op b1 b2
  have hrow (hop : op ∈ Machine.undefinedRows.map Prod.fst) : (op, decodeBytes op b1 b2) ∈ Machine.undefinedRows := by
    obtain ⟨row, hmem, rfl⟩ := List.mem_map.mp hop
    rw [decodeBytes_undefined hmem]
    exact hmem
  refine ⟨⟨List.mem_map_of_mem, hrow⟩, fun hundef => ?_, fun hop => List.mem_map_of_mem (hrow hop)⟩
  obtain ⟨row, hmem, heq⟩ := List.mem_map.mp hundef
  have hopcode : some row.1 = some op := by
    rw [← head?_encode_decodeBytes row.1 b1 b2, decodeBytes_undefined hmem, heq, head?_encode_decodeBytes]
  cases hopcode
  exact List.mem_map_of_mem hmem

/-- Settles O5: each of the words is the encoding of its instruction, with nothing after it. -/
theorem tableWordsDecode : Obligations.TableWordsDecode := by
  have hread (i : Instr) (hwf : i.wellFormed = true) : decode (encode i) = .ok (i, []) := by
    rw [← decodeReadsBackEncode i [] hwf, List.append_nil]
  exact ⟨hread .ldBC rfl, hread (.ldAD8 0x45) rfl, hread (.ldHLD16 0xC000) rfl, hread .pushAF rfl, hread .sbcAH rfl,
    hread .addHLHL rfl, hread .bit7H rfl, hread .rrAtHL rfl, hread (.jrNZE8 0xFC) rfl, hread (.callA16 0x0010) rfl,
    hread .halt rfl, hread .undefDD rfl⟩

end Sys2Proof

/-! What an instruction can do to SP, F, the control state and the cost (R22 to R29, R48, R261), said once:
`exec_effect`. -/

namespace Sys2Proof.Machine

/-- A cost in clock cycles that the tables give: whole machine cycles, 1 to 6 of them (R5, R261). -/
abbrev IsCost (n : Nat) : Prop := n % 4 = 0 ∧ 4 ≤ n ∧ n ≤ 24

theorem isCost_operandCost (o : Operand8) {m n : Nat} (hm : IsCost m) (hn : IsCost n) : IsCost (operandCost o m n) := by
  cases o with
  | reg r => exact hm
  | atHL => exact hn

theorem isCost_loadCost (dst src : Operand8) : IsCost (loadCost dst src) := by
  have h8 : IsCost 8 := by decide
  rcases dst with _ | _ <;> rcases src with _ | _
  · have h4 : IsCost 4 := by decide
    exact h4
  · exact h8
  · exact h8
  · exact h8

/-- What `i` leaves of `s` in `t`: for each component either that it stays or that `i` is listed as writing it. -/
structure Effect (i : Instr) (s t : State) : Prop where
  cost : IsCost t.cycles ∨ i ∈ undefinedRows.map Prod.snd
  ime : t.ime = s.ime ∨ i = .ei ∨ i = .di ∨ i = .reti
  runState : t.runState = s.runState ∨ i = .halt ∨ (∃ pad, i = .stop pad) ∨ i ∈ undefinedRows.map Prod.snd
  fault : t.fault = s.fault ∨ i ∈ undefinedRows.map Prod.snd
  sp : t.sp = s.sp ∨ WritesSP i
  flags : t.f = s.f ∨ WritesFlags i ∨ i.wellFormed = false
  lowFlags : agreeOnLowF s t ∨ IsAccumulatorOp i ∨ i = .popAF

/-- `exec` answers a next state, with the effect that the rules allow. -/
abbrev Completes (i : Instr) (s : State) : Prop := ∃ t, exec i s = .next t ∧ Effect i s t

section Shapes

variable {i : Instr} {s t u : State}

/-- An instruction that writes F at most, bits 7:4 only. -/
theorem Effect.of_keptSp (hcost : IsCost t.cycles) (hkept : agreeOnSpAndControl s t)
    (hflags : t.f = s.f ∨ WritesFlags i ∨ i.wellFormed = false) (hlow : agreeOnLowF s t) : Effect i s t := by
  obtain ⟨hsp, hime, hrun, hfault⟩ := hkept
  exact ⟨.inl hcost, .inl hime, .inl hrun, .inl hfault, .inl hsp, hflags, .inl hlow⟩

theorem Effect.of_keptF (hcost : IsCost t.cycles) (hkept : agreeOnSpAndControl s t) (hf : t.f = s.f) : Effect i s t :=
  .of_keptSp hcost hkept (.inl hf) (congrArg (BitVec.extractLsb' 0 4) hf)

/-- An instruction that R24 lists as writing SP, and that leaves F and the control state. -/
theorem Effect.of_writesSP (hw : WritesSP i) (hcost : IsCost t.cycles) (hkept : agreeOnControl s t) (hf : t.f = s.f) :
    Effect i s t := by
  obtain ⟨hime, hrun, hfault⟩ := hkept
  exact ⟨.inl hcost, .inl hime, .inl hrun, .inl hfault, .inr hw, .inl hf, .inl (congrArg (BitVec.extractLsb' 0 4) hf)⟩

variable {o : Operand8} {v : Byte} {w len target : Word} {fl : Flags} {n : Nat} {taken : Prop} [Decidable taken]

theorem completes_ite (hexec : exec i s = if taken then .next t else .next u) (ht : Effect i s t) (hu : Effect i s u) :
    Completes i s := by
  by_cases h : taken
  · exact ⟨t, hexec.trans (if_pos h), ht⟩
  · exact ⟨u, hexec.trans (if_neg h), hu⟩

theorem completes_writeOperand (hexec : exec i s = .next ((s.writeOperand o v).retire len n)) (hcost : IsCost n) :
    Completes i s :=
  ⟨_, hexec, .of_keptF hcost (s.agreeOnSpAndControl_writeOperand o v) (s.f_writeOperand o v)⟩

theorem completes_writeOperand_setFlags (hexec : exec i s = .next (((s.writeOperand o v).setFlags fl).retire len n))
    (hcost : IsCost n) (hw : WritesFlags i ∨ i.wellFormed = false) : Completes i s :=
  ⟨_, hexec, .of_keptSp hcost (s.agreeOnSpAndControl_writeOperand o v) (.inr hw)
    (agreeOnLowF_setFlags_of_f fl (s.f_writeOperand o v))⟩

theorem completes_setFlags (hexec : exec i s = .next ((s.setFlags fl).retire len n)) (hcost : IsCost n)
    (hw : WritesFlags i ∨ i.wellFormed = false) : Completes i s :=
  ⟨_, hexec, .of_keptSp hcost ⟨rfl, rfl, rfl, rfl⟩ (.inr hw) (s.agreeOnLowF_setFlags fl)⟩

theorem completes_setHL_setFlags (hexec : exec i s = .next (((s.setHL w).setFlags fl).retire len n)) (hcost : IsCost n)
    (hw : WritesFlags i) : Completes i s :=
  ⟨_, hexec, .of_keptSp hcost ⟨rfl, rfl, rfl, rfl⟩ (.inr (.inl hw)) (agreeOnLowF_setFlags_of_f fl rfl)⟩

/-- A store, a jump, or an instruction that only moves on. -/
theorem completes_kept (hexec : exec i s = .next t) (hcost : IsCost t.cycles) (hkept : agreeOnSpAndControl s t)
    (hf : t.f = s.f) : Completes i s :=
  ⟨t, hexec, .of_keptF hcost hkept hf⟩

/-- Every accumulator operation ends in an `accumulatedState` (R170). -/
theorem accumulate_ends (op : AluOp) (x : Byte) (len : Word) (n : Nat) (s : State) :
    ∃ r, accumulate op x len n s = .next (accumulatedState r len n s) := by
  cases op with
  | cp => exact ⟨(s.a, _), rfl⟩
  | _ => exact ⟨_, rfl⟩

theorem low_accumulatedState (r : Byte × Flags) (len : Word) (n : Nat) (s : State) :
    (accumulatedState r len n s).f.extractLsb' 0 4 = 0 :=
  packFlags_low r.2 0

theorem completes_accumulate {op : AluOp} (hexec : exec i s = accumulate op v len n s) (hcost : IsCost n)
    (hop : IsAccumulatorOp i) : Completes i s := by
  obtain ⟨r, hends⟩ := accumulate_ends op v len n s
  exact ⟨_, hexec.trans hends, .inl hcost, .inl rfl, .inl rfl, .inl rfl, .inl rfl, .inr (.inl (.accumulator i hop)),
    .inr (.inl hop)⟩

/-- A load of SP, PUSH, CALL and RST, POP but for AF, and a return but for RETI. -/
theorem completes_writesSP (hexec : exec i s = .next t) (hw : WritesSP i) (hcost : IsCost t.cycles)
    (hkept : agreeOnControl s t) (hf : t.f = s.f) : Completes i s :=
  ⟨t, hexec, .of_writesSP hw hcost hkept hf⟩

theorem completes_undefined {op : Byte} (hexec : exec i s = undefinedOpcode op s)
    (hrow : i ∈ undefinedRows.map Prod.snd) : Completes i s :=
  ⟨_, hexec, .inr hrow, .inl rfl, .inr (.inr (.inr hrow)), .inr hrow, .inl rfl, .inl rfl, .inl rfl⟩

/-- The PREFIX row, which is not well formed, has the effect of a row of the extended table (R234). -/
theorem completes_prefixCB (op2 : Byte) (s : State) : Completes (.prefixCB op2) s := by
  have hexec := exec_prefixCB s op2
  have hcost (o : Operand8) : IsCost (operandCost o 8 16) := isCost_operandCost o (by decide) (by decide)
  unfold extendedTable at hexec
  split at hexec
  · exact completes_writeOperand_setFlags hexec (hcost _) (.inr rfl)
  · exact completes_setFlags hexec (hcost _) (.inr rfl)
  · exact completes_writeOperand hexec (hcost _)
  · exact completes_writeOperand hexec (hcost _)

end Shapes

/-- Every instruction completes, and writes no component that the rules do not list it for; one case per group of
rows. -/
theorem exec_effect (i : Instr) (s : State) : Completes i s := by
  have hcost4 (o : Operand8) : IsCost (operandCost o 4 8) := isCost_operandCost o (by decide) (by decide)
  have hcost12 (o : Operand8) : IsCost (operandCost o 4 12) := isCost_operandCost o (by decide) (by decide)
  have hcost16 (o : Operand8) : IsCost (operandCost o 8 16) := isCost_operandCost o (by decide) (by decide)
  have h4 : IsCost 4 := by decide
  have h8 : IsCost 8 := by decide
  have h12 : IsCost 12 := by decide
  have h16 : IsCost 16 := by decide
  have h20 : IsCost 20 := by decide
  have h24 : IsCost 24 := by decide
  have hkept : agreeOnSpAndControl s s := ⟨rfl, rfl, rfl, rfl⟩
  induction i using Instr.row_cases with
  | ld dst src h => exact completes_writeOperand (exec_rowLd s dst src h) (isCost_loadCost dst src)
  | ldImm o d8 => exact completes_writeOperand (exec_rowLdImm s o d8) (isCost_operandCost o h8 h12)
  | storeA ia => cases ia <;> exact completes_kept rfl h8 hkept rfl
  | loadA ia => cases ia <;> exact completes_kept rfl h8 hkept rfl
  | inc o => exact completes_writeOperand_setFlags (exec_rowInc s o) (hcost12 o) (.inl (.inc o))
  | dec o => exact completes_writeOperand_setFlags (exec_rowDec s o) (hcost12 o) (.inl (.dec o))
  | alu op o => exact completes_accumulate (exec_rowAlu s op o) (hcost4 o) (.operand op o)
  | aluImm op d8 => exact completes_accumulate (exec_rowAluImm s op d8) h8 (.immediate op d8)
  | ldPair p d16 =>
    cases p with
    | sp => exact completes_writesSP rfl (.loadImmediate d16) h12 ⟨rfl, rfl, rfl⟩ rfl
    | _ => exact completes_kept rfl h12 hkept rfl
  | addHL p => exact completes_setHL_setFlags (exec_rowAddHL s p) h8 (.addHL p)
  | incPair p =>
    cases p with
    | sp => exact completes_writesSP rfl .inc h8 ⟨rfl, rfl, rfl⟩ rfl
    | _ => exact completes_kept rfl h8 hkept rfl
  | decPair p =>
    cases p with
    | sp => exact completes_writesSP rfl .dec h8 ⟨rfl, rfl, rfl⟩ rfl
    | _ => exact completes_kept rfl h8 hkept rfl
  | push p => exact completes_writesSP (exec_rowPush s p) (.push p) h16 ⟨rfl, rfl, rfl⟩ rfl
  | pop p =>
    cases p with
    | af =>
      exact ⟨_, rfl, .inl h12, .inl rfl, .inl rfl, .inl rfl, .inr (.pop .af), .inr (.inl .popAF), .inr (.inr rfl)⟩
    | bc => exact completes_writesSP rfl (.pop .bc) h12 ⟨rfl, rfl, rfl⟩ rfl
    | de => exact completes_writesSP rfl (.pop .de) h12 ⟨rfl, rfl, rfl⟩ rfl
    | hl => exact completes_writesSP rfl (.pop .hl) h12 ⟨rfl, rfl, rfl⟩ rfl
  | jrCond cc e8 => exact completes_ite (exec_rowJrCond s cc e8) (.of_keptF h12 hkept rfl) (.of_keptF h8 hkept rfl)
  | jpCond cc a16 => exact completes_ite (exec_rowJpCond s cc a16) (.of_keptF h16 hkept rfl) (.of_keptF h12 hkept rfl)
  | callCond cc a16 =>
    exact completes_ite (exec_rowCallCond s cc a16) (.of_writesSP (.callIf cc a16) h24 ⟨rfl, rfl, rfl⟩ rfl)
      (.of_keptF h12 hkept rfl)
  | retCond cc =>
    exact completes_ite (exec_rowRetCond s cc) (.of_writesSP (.retIf cc) h20 ⟨rfl, rfl, rfl⟩ rfl)
      (.of_keptF h8 hkept rfl)
  | rst y => exact completes_writesSP (exec_rowRst s y) (.rst y) h16 ⟨rfl, rfl, rfl⟩ rfl
  | rot op o => exact completes_writeOperand_setFlags (exec_rowRot s op o) (hcost16 o) (.inl (.rotate op o))
  | bit n o => exact completes_setFlags (exec_rowBit s n o) (hcost16 o) (.inl (.bit n o))
  | res n o => exact completes_writeOperand (exec_rowRes s n o) (hcost16 o)
  | set n o => exact completes_writeOperand (exec_rowSet s n o) (hcost16 o)
  | prefixCB op2 => exact completes_prefixCB op2 s
  | rlca => exact completes_writeOperand_setFlags (o := .reg .a) rfl h4 (.inl .rlca)
  | rrca => exact completes_writeOperand_setFlags (o := .reg .a) rfl h4 (.inl .rrca)
  | rla => exact completes_writeOperand_setFlags (o := .reg .a) rfl h4 (.inl .rla)
  | rra => exact completes_writeOperand_setFlags (o := .reg .a) rfl h4 (.inl .rra)
  | daa => exact completes_writeOperand_setFlags (o := .reg .a) rfl h4 (.inl .daa)
  | cpl => exact completes_writeOperand_setFlags (o := .reg .a) rfl h4 (.inl .cpl)
  | scf => exact completes_setFlags rfl h4 (.inl .scf)
  | ccf => exact completes_setFlags rfl h4 (.inl .ccf)
  | ldHLSPE8 e8 => exact completes_setHL_setFlags rfl h12 (.loadHLSP e8)
  | addSPE8 e8 =>
    exact ⟨_, rfl, .inl h16, .inl rfl, .inl rfl, .inl rfl, .inr (.addDisplacement e8), .inr (.inl (.addSP e8)),
      .inl (agreeOnLowF_setFlags_of_f _ rfl)⟩
  | ldSPHL => exact completes_writesSP rfl .loadHL h8 ⟨rfl, rfl, rfl⟩ rfl
  | callA16 a16 => exact completes_writesSP rfl (.call a16) h24 ⟨rfl, rfl, rfl⟩ rfl
  | ret => exact completes_writesSP rfl .ret h16 ⟨rfl, rfl, rfl⟩ rfl
  | reti =>
    exact ⟨_, rfl, .inl h16, .inr (.inr (.inr rfl)), .inl rfl, .inl rfl, .inr .reti, .inl rfl, .inl rfl⟩
  | ei => exact ⟨_, rfl, .inl h4, .inr (.inl rfl), .inl rfl, .inl rfl, .inl rfl, .inl rfl, .inl rfl⟩
  | di => exact ⟨_, rfl, .inl h4, .inr (.inr (.inl rfl)), .inl rfl, .inl rfl, .inl rfl, .inl rfl, .inl rfl⟩
  | halt => exact ⟨_, rfl, .inl h4, .inl rfl, .inr (.inl rfl), .inl rfl, .inl rfl, .inl rfl, .inl rfl⟩
  | stop pad =>
    exact ⟨_, rfl, .inl h4, .inl rfl, .inr (.inr (.inl ⟨pad, rfl⟩)), .inl rfl, .inl rfl, .inl rfl, .inl rfl⟩
  | nop => exact completes_kept rfl h4 hkept rfl
  | ldAtA16SP a16 => exact completes_kept rfl h20 hkept rfl
  | jrE8 e8 => exact completes_kept rfl h12 hkept rfl
  | jpA16 a16 => exact completes_kept rfl h16 hkept rfl
  | jpAtHL => exact completes_kept rfl h4 hkept rfl
  | ldhAtA8A a8 => exact completes_kept rfl h12 hkept rfl
  | ldhAAtA8 a8 => exact completes_kept rfl h12 hkept rfl
  | ldAtCA => exact completes_kept rfl h8 hkept rfl
  | ldAAtC => exact completes_kept rfl h8 hkept rfl
  | ldAtA16A a16 => exact completes_kept rfl h16 hkept rfl
  | ldAAtA16 a16 => exact completes_kept rfl h16 hkept rfl
  | _ => exact completes_undefined rfl (by decide)

/-- Settles O15: each row of the table is what its opcode decodes to, and raises that opcode. -/
theorem undefinedRowRaisesFault : Obligations.UndefinedRowRaisesFault := by
  intro s row hrow
  rw [← decodeBytes_undefined hrow 0 0]
  exact exec_decodeBytes_undefined (List.mem_map_of_mem hrow) 0 0 s

theorem exec_of_undefined {i : Instr} (h : i ∈ undefinedRows.map Prod.snd) (s : State) :
    ∃ op, exec i s = .next (s.raiseUndefined op) := by
  obtain ⟨row, hrow, rfl⟩ := List.mem_map.mp h
  exact ⟨row.1, undefinedRowRaisesFault s row hrow⟩

/-- The effect of the one next state that `exec` answers. -/
theorem effect_of_exec {i : Instr} {s t : State} (h : exec i s = .next t) : Effect i s t := by
  obtain ⟨u, hu, heffect⟩ := exec_effect i s
  cases hu.symm.trans h
  exact heffect

/-- Settles O17: the cost clause of `exec_effect`; the exception leaves the cost. -/
theorem everyInstructionCompletes : Obligations.EveryInstructionCompletes := by
  intro i s
  by_cases hundef : i ∈ undefinedRows.map Prod.snd
  · obtain ⟨op, hexec⟩ := exec_of_undefined hundef s
    exact ⟨_, hexec, by rw [if_pos hundef]; rfl⟩
  · obtain ⟨t, hexec, heffect⟩ := exec_effect i s
    exact ⟨t, hexec, by rw [if_neg hundef]; exact heffect.cost.resolve_right hundef⟩

/-- Settles O20: the control clauses of `exec_effect`. -/
theorem onlyListedInstructionsWriteControlState : Obligations.OnlyListedInstructionsWriteControlState := by
  intro i s t hexec
  have heffect := effect_of_exec hexec
  exact ⟨heffect.ime.resolve_left, heffect.runState.resolve_left, heffect.fault.resolve_left⟩

/-- Settles O21: the SP clause of `exec_effect`. -/
theorem onlyListedInstructionsWriteSP : Obligations.OnlyListedInstructionsWriteSP := by
  intro i s t hexec
  exact (effect_of_exec hexec).sp.resolve_left

/-- Settles O22: the flag clause of `exec_effect`; the PREFIX row is not well formed. -/
theorem onlyListedInstructionsWriteFlags : Obligations.OnlyListedInstructionsWriteFlags := by
  intro i s t hwf hexec hne
  have hlisted := (effect_of_exec hexec).flags.resolve_left hne
  exact hlisted.resolve_right (by rw [hwf]; decide)

/-- Settles O23: an accumulator operation sets the flags over a cleared F, POP AF loads F as the low byte of the word,
and for every other instruction it is the last clause of `exec_effect`. -/
theorem lowFlagBitsWrittenInTwoWays : Obligations.LowFlagBitsWrittenInTwoWays := by
  intro i s t hexec
  refine ⟨fun hop => ?accumulator, fun hpop => ?popAF, fun hop hpop => ?other⟩
  case accumulator =>
    obtain ⟨op, x, len, n, haccumulate⟩ : ∃ op x len n, exec i s = accumulate op x len n s := by
      cases hop with
      | operand op o => exact ⟨_, _, _, _, exec_rowAlu s op o⟩
      | immediate op d8 => exact ⟨_, _, _, _, exec_rowAluImm s op d8⟩
    obtain ⟨r, hends⟩ := accumulate_ends op x len n s
    cases hexec.symm.trans (haccumulate.trans hends)
    exact low_accumulatedState r len n s
  case popAF =>
    subst hpop
    cases hexec
    exact loByte_joinBytes _ _
  case other => exact (effect_of_exec hexec).lowFlags.resolve_right fun h => h.elim hop hpop

end Sys2Proof.Machine

/-! The tick with the display on, byte by byte and pixel by pixel (R272 to R278), and a run of ticks up to VBlank
(R274). -/

namespace Sys2Proof.Machine

section DisplayOnTick

variable (s : State) (n : Nat)

/-- A tick with the display on writes IF, STAT and LY (R273 to R275). -/
theorem State.agreeOnBytes_displayOnTick :
    agreeOnBytes [Config.ifAddr, Config.statAddr, Config.lyAddr] s (s.displayOnTick n) := by
  intro addr haddr
  obtain ⟨hif, hstat, hly⟩ : addr ≠ Config.ifAddr ∧ addr ≠ Config.statAddr ∧ addr ≠ Config.lyAddr := by
    simpa using haddr
  rw [State.read8_displayOnTick]
  exact (if_neg fun h => hif h.1).trans ((if_neg hstat).trans (if_neg hly))

theorem State.ifByte_displayOnTick :
    (s.displayOnTick n).read8 Config.ifAddr =
      if s.prevVerticalClock ≤ Config.visibleLines ∧
          verticalOf ((s.internalClock + n) % Config.frameClocks) > Config.visibleLines
      then s.read8 Config.ifAddr ||| 0x01 else s.read8 Config.ifAddr := by
  rw [State.read8_displayOnTick]
  exact if_congr (and_iff_right rfl) rfl rfl

theorem State.statByte_displayOnTick :
    (s.displayOnTick n).read8 Config.statAddr =
      (s.read8 Config.statAddr &&& ~~~0x03) |||
        displayMode (horizontalOf ((s.internalClock + n) % Config.frameClocks))
          (verticalOf ((s.internalClock + n) % Config.frameClocks)) := by
  rw [State.read8_displayOnTick]
  rfl

/-- Recording the mode in bits 1:0 keeps bits 7:2 (R275). -/
theorem kept_highBits (v : Byte) (horizontal vertical : Nat) :
    ((v &&& ~~~0x03) ||| displayMode horizontal vertical) &&& 0xFC = v &&& 0xFC := by
  have hmode : displayMode horizontal vertical &&& 0xFC = 0 := by
    unfold displayMode
    split_ifs <;> rfl
  rw [BitVec.and_or_distrib_right, hmode, BitVec.and_assoc]
  exact BitVec.or_zero

/-- The render reads memory and the base addresses as they are at the end of the tick (R276, R278). -/
theorem State.render_displayOnTick :
    ((s.displayOnTick n).fb, (s.displayOnTick n).frameEvent) =
      if s.prevVerticalClock > Config.visibleLines ∧
          verticalOf ((s.internalClock + n) % Config.frameClocks) < Config.visibleLines
      then ((s.displayOnTick n).renderFrame.fb, true) else (s.fb, s.frameEvent) := by
  set clock := (s.internalClock + n) % Config.frameClocks with hclock
  set moved : State := { s with displayOn := true, internalClock := clock } with hmoved
  set raised := (moved.recordPosition (horizontalOf clock) (verticalOf clock)).raiseVBlank (verticalOf clock)
    with hraised
  have hmem : (s.displayOnTick n).mem = raised.mem := raised.mem_renderOnWrap (verticalOf clock)
  have hshape : raised = { s with displayOn := true, internalClock := clock, mem := raised.mem } := by
    rw [hraised, State.raiseVBlank_eq]
    rfl
  have hprev : raised.prevVerticalClock = s.prevVerticalClock := by rw [hshape]
  have hpixels : raised.fb = s.fb := by rw [hshape]
  have hevent : raised.frameEvent = s.frameEvent := by rw [hshape]
  have hframe : (s.displayOnTick n).renderFrame.fb = raised.renderFrame.fb := by
    rw [State.renderFrame, State.renderFrame, hmem, State.displayOnTick_eq, hshape]
  rw [hframe, ← hprev, ← hpixels, ← hevent]
  exact raised.renderOnWrap_fb (verticalOf clock)

end DisplayOnTick

/-- Settles O30: LCDC bit 7 makes it a tick with the display on, which the lemmas above describe. -/
theorem displayOnTickMemory : Obligations.DisplayOnTickMemory := by
  intro s n (hlcd : s.lcdEnabled = true) t clock horizontal vertical
  have ht : t = s.displayOnTick n := State.videoTick_of_lcdEnabled hlcd n
  obtain ⟨-, -, -, -, hscanline, hmode⟩ := s.displayOnTick_showsPosition n
  have hrender := s.render_displayOnTick n
  have hlast : vertical ≤ 154 := (verticalOf_range (Nat.mod_lt _ (by decide))).2
  rw [ht]
  refine ⟨s.agreeOnBytes_displayOnTick n, ?bases, ?scanline, ?statHigh, ?mode, s.ifByte_displayOnTick n,
    fun hstay => ?kept, fun hwrap => ?rendered⟩
  case bases => rw [State.displayOnTick_eq]
  case scanline =>
    rw [hscanline, BitVec.toNat_ofNat]
    exact Nat.mod_eq_of_lt (lt_of_le_of_lt hlast (by decide))
  case statHigh =>
    rw [s.statByte_displayOnTick n]
    exact kept_highBits _ _ _
  case mode =>
    rw [hmode]
    exact toNat_displayMode _ _
  case kept => exact Prod.mk.inj (hrender.trans (if_neg hstay))
  case rendered => exact Prod.mk.inj (hrender.trans (if_pos hwrap))

/-- Settles O31: the key of the pixel is in the rendered range, and gives its row and column back. -/
theorem frameRenderDecodesBackground : Obligations.FrameRenderDecodesBackground := by
  intro s y x hy hx idx addr b
  have hpixel : s.renderFrame.pixel y x = backgroundPixel s.bgBases s.mem y x := by
    have hkey : pixelKey y x = 256 * y + x := rfl
    have hrow : pixelKey y x / 256 = y := by omega
    have hcolumn : pixelKey y x % 256 = x := by omega
    have hrange : 0 ≤ pixelKey y x ∧ pixelKey y x < 0 + pixelCount := by unfold pixelCount; omega
    refine (cellGet_renderFrom s.bgBases s.mem 0 pixelCount (pixelKey y x)).trans ?_
    rw [if_pos hrange, hrow, hcolumn]
  have hbits (hi lo : Bool) :
      (BitVec.ofBool hi ++ BitVec.ofBool lo).getLsbD 0 = lo ∧
      (BitVec.ofBool hi ++ BitVec.ofBool lo).getLsbD 1 = hi := by
    cases hi <;> cases lo <;> decide
  rw [hpixel]
  obtain ⟨hlow, hhigh⟩ := hbits ((s.read8 (addr + 1)).getLsbD b) ((s.read8 addr).getLsbD b)
  exact ⟨hlow, hhigh, rfl⟩

/-! ## A run of ticks -/

/-- While the total stays below the end of line 144, ticks advance the frame position by their total and leave IF and
the LCD-enable bit. -/
theorem ticks_before_vblank (ns : List Nat) (s : State) (hlcd : s.lcdEnabled = true)
    (hprev : s.prevVerticalClock ≤ Config.visibleLines) (hsum : s.internalClock + ns.sum < 114 * 144) :
    let t := ns.foldl State.videoTick s
    t.lcdEnabled = true ∧ t.prevVerticalClock ≤ Config.visibleLines ∧ t.internalClock = s.internalClock + ns.sum ∧
    t.read8 Config.ifAddr = s.read8 Config.ifAddr := by
  induction ns generalizing s with
  | nil => exact ⟨hlcd, hprev, rfl, rfl⟩
  | cons n ns ih =>
    rw [List.sum_cons] at hsum
    have hclock : (s.internalClock + n) % Config.frameClocks = s.internalClock + n :=
      Nat.mod_eq_of_lt (lt_trans (by omega : s.internalClock + n < 114 * 144) (by decide))
    have hline : verticalOf (s.internalClock + n) ≤ Config.visibleLines := by
      have hvertical : verticalOf (s.internalClock + n) = (s.internalClock + n) / 114 + 1 := rfl
      have hlines : Config.visibleLines = 144 := rfl
      omega
    obtain ⟨-, hmoved, -, hvertical, -, -⟩ := s.displayOnTick_showsPosition n
    rw [hclock] at hmoved hvertical
    have hif := s.ifByte_displayOnTick n
    rw [hclock, if_neg fun h => absurd h.2 (Nat.not_lt.mpr hline)] at hif
    obtain ⟨hlcd', hprev', hclock', hif'⟩ := ih (s.displayOnTick n) ((s.lcdEnabled_displayOnTick n).trans hlcd)
      (hvertical.trans_le hline) (by rw [hmoved]; omega)
    rw [List.foldl_cons, State.videoTick_of_lcdEnabled hlcd]
    refine ⟨hlcd', hprev', ?_, hif'.trans hif⟩
    rw [hclock', hmoved, List.sum_cons, Nat.add_assoc]

/-- A proper initial part of a list of positive numbers has a smaller sum. -/
theorem sum_lt_of_prefix {ms ns : List Nat} (hprefix : ms <+: ns) (hne : ms ≠ ns) (hpos : ∀ n ∈ ns, 1 ≤ n) :
    ms.sum < ns.sum := by
  obtain ⟨rest, rfl⟩ := hprefix
  cases rest with
  | nil => exact absurd (List.append_nil ms).symm hne
  | cons n rest =>
    have hn : 1 ≤ n := hpos n (by simp)
    rw [List.sum_append, List.sum_cons]
    omega

/-- Settles O33: the ticks but the last stay before VBlank, and the last one ends exactly on line 145. -/
theorem vBlankAfterExactlyVisibleLines : Obligations.VBlankAfterExactlyVisibleLines := by
  intro s ns (hlcd : s.lcdEnabled = true) hstart hprev hrange hsum t
  have hbefore {ms : List Nat} (hlt : ms.sum < ns.sum) :=
    ticks_before_vblank ms s hlcd hprev (by rw [hstart]; omega)
  have hproper {ms : List Nat} (hprefix : ms <+: ns) (hne : ms ≠ ns) : ms.sum < ns.sum :=
    sum_lt_of_prefix hprefix hne fun n hn => (hrange n hn).1
  have hnonempty : ns ≠ [] := by
    rintro rfl
    exact absurd hsum (by decide)
  obtain ⟨ms, n, hns⟩ : ∃ ms n, ns = ms ++ [n] :=
    ⟨ns.dropLast, ns.getLast hnonempty, (List.dropLast_append_getLast hnonempty).symm⟩
  obtain ⟨hlcd', hprev', hclock, -⟩ := hbefore (hproper ⟨[n], hns.symm⟩ (by rw [hns]; simp))
  set u := ms.foldl State.videoTick s
  have ht : t = u.displayOnTick n := by
    have hlast : t = u.videoTick n := by
      show ns.foldl State.videoTick s = _
      rw [hns, List.foldl_append]
      rfl
    rw [hlast, State.videoTick_of_lcdEnabled hlcd']
  have hend : (u.internalClock + n) % Config.frameClocks = 114 * 144 := by
    rw [hns, List.sum_append, List.sum_singleton] at hsum
    rw [hclock, hstart, Nat.zero_add, hsum]
    rfl
  obtain ⟨-, hposition, -, -, hscanline, -⟩ := u.displayOnTick_showsPosition n
  have hif := u.ifByte_displayOnTick n
  rw [hend] at hposition hscanline hif
  rw [if_pos ⟨hprev', by decide⟩] at hif
  rw [ht]
  refine ⟨?position, hscanline, ?vblank, fun ms' hprefix hne => ?before⟩
  case position => rw [hposition]; rfl
  case vblank =>
    have hraised := congrArg (fun v => v.getLsbD 0) hif
    rw [BitVec.getLsbD_or] at hraised
    exact hraised.trans (Bool.or_true _)
  case before =>
    obtain ⟨-, -, -, hkept⟩ := hbefore (hproper hprefix hne)
    exact hkept

end Sys2Proof.Machine

/-! The step (R240 to R248): when it exists, what it runs, how it ends, and the host's turn. -/

namespace Sys2Proof.Machine

/-! ## Phase 1 without a dispatch -/

section Phase1

variable {s : State}

theorem State.not_dispatches (h : s.ime = false ∨ s.pending = 0) : s.dispatches = false := by
  refine Bool.eq_false_iff.mpr fun hd => ?_
  obtain ⟨hime, hpend⟩ := s.dispatches_iff.mp hd
  obtain hoff | hnone := h
  · exact absurd hime (Bool.eq_false_iff.mp hoff)
  · exact hpend hnone

theorem State.interruptCheck_of_not_dispatches (h : s.ime = false ∨ s.pending = 0) : s.interruptCheck = s.wake :=
  if_neg (Bool.eq_false_iff.mp (State.not_dispatches h))

/-- A machine that does not wake and does not dispatch passes phase 1 as it is. -/
theorem State.interruptCheck_eq_self (h : s.ime = false ∨ s.pending = 0)
    (hwake : ¬ (s.runState = .halted ∧ s.pending ≠ 0)) : s.interruptCheck = s := by
  rw [State.interruptCheck_of_not_dispatches h]
  exact if_neg hwake

/-- Phase 1 writes the run-state by the wake alone (R242). -/
theorem State.runState_interruptCheck (s : State) :
    s.interruptCheck.runState = if s.runState = .halted ∧ s.pending ≠ 0 then .running else s.runState := by
  rw [State.interruptCheck, State.wake_eq]
  split
  · rfl
  · rfl

/-- Phase 1 leaves an active machine active. -/
theorem State.active_interruptCheck (h : s.runState = .running ∨ s.runState = .halted) :
    s.interruptCheck.runState = .running ∨ s.interruptCheck.runState = .halted := by
  rw [State.runState_interruptCheck]
  split
  · exact .inl rfl
  · exact h

end Phase1

/-- Settles O12: phase 1 is the wake alone, which writes the run-state. -/
theorem wakeWithoutDispatch : Obligations.WakeWithoutDispatch := by
  intro s h
  rw [State.interruptCheck_of_not_dispatches h, State.wake_eq]

/-! ## Phase 2 -/

section Phase2

variable {s t : State}

/-- Where a step ends after an instruction that left `t`: at once if it faulted, else with phases 3 and 4; the host's
turn comes after both (R240, R246, R262). -/
abbrev State.afterInstruction (t : State) (dispatched : Bool) : State :=
  if t.runState = .faulted then t.hostTurn else t.finishStep dispatched t.cycles

theorem State.runInstruction_of_exec (hexec : exec s.fetch s = .next t) (dispatched : Bool) :
    s.runInstruction dispatched = .next (t.afterInstruction dispatched) := by
  simp only [State.runInstruction, hexec]
  exact (apply_ite Host.Outcome.next _ _ _).symm

theorem step_of_running (hstep : s.canStep) (hrunning : s.beginStep.interruptCheck.runState = .running)
    (hexec : exec s.beginStep.interruptCheck.fetch s.beginStep.interruptCheck = .next t) :
    step s = .next (t.afterInstruction s.dispatches) := by
  rw [step_eq_activeStep hstep, State.activeStep_of_running hrunning, State.runInstruction_of_exec hexec]

/-- An idle slot while Halted (R243). -/
theorem step_of_halted (hstep : s.canStep) (hhalted : s.beginStep.interruptCheck.runState = .halted) :
    step s = .next (s.beginStep.interruptCheck.finishStep s.dispatches Config.haltIdleT) := by
  rw [step_eq_activeStep hstep]
  simp only [State.activeStep, hhalted]

end Phase2

/-- Settles O7: phase 1 leaves the machine Running, and then the instruction completes, or Halted, and the slot is
idle. -/
theorem stepExistsExactlyWhenActive : Obligations.StepExistsExactlyWhenActive := by
  intro s
  refine ⟨fun ⟨t, hstep⟩ => ?onlyActive, fun hstep => ?active⟩
  case onlyActive =>
    obtain ⟨hhost, hactive, -⟩ := step_cases hstep
    exact ⟨hhost, hactive⟩
  case active =>
    obtain hrunning | hhalted := State.active_interruptCheck (s := s.beginStep) hstep.2
    · obtain ⟨t, hexec, -⟩ := exec_effect s.beginStep.interruptCheck.fetch s.beginStep.interruptCheck
      exact ⟨_, step_of_running hstep hrunning hexec⟩
    · exact ⟨_, step_of_halted hstep hhalted⟩

/-- Settles O8: phase 1 changes nothing, and the fetch reads the bytes that decode to `i`. -/
theorem stepRunsDecodedInstruction : Obligations.StepRunsDecodedInstruction := by
  intro s i rest hhost hrunning hnone _ hdecode
  obtain ⟨-, hfetch, -⟩ := decode_eq_ok _ hdecode
  have hcheck : s.beginStep.interruptCheck = s.beginStep :=
    State.interruptCheck_eq_self (s := s.beginStep) hnone fun h => by
      have hhalted : s.runState = .halted := h.1
      rw [hrunning] at hhalted
      cases hhalted
  obtain ⟨t, hexec, -⟩ := exec_effect i s.beginStep
  refine ⟨t, hexec, ?_⟩
  have hstep : step s = .next (t.afterInstruction s.dispatches) := by
    refine step_of_running ⟨hhost, .inl hrunning⟩ (by rw [hcheck]; exact hrunning) ?_
    rw [hcheck, ← hexec, ← hfetch]
    rfl
  rw [hstep, State.not_dispatches hnone]

/-- Settles O9: the dispatch wakes the machine, so the step goes on to the instruction at the vector. -/
theorem dispatchStepRunsVectorInstruction : Obligations.DispatchStepRunsVectorInstruction := by
  intro s hstep hime hpend v
  obtain ⟨hpc, -, -, -, -, -, -, -, -, -, hrun⟩ := interruptEntrySavesPcAndVectors s.beginStep hime hpend
  have hrunning : v.runState = .running := by
    rw [hrun]
    split
    · rfl
    · next hhalted => exact hstep.2.resolve_right hhalted
  obtain ⟨t, hexec, -⟩ := exec_effect v.fetch v
  have hanswer := step_of_running hstep hrunning hexec
  rw [s.dispatches_iff.mpr ⟨hime, hpend⟩] at hanswer
  exact ⟨hpc, t, hexec, hanswer, rfl⟩

/-! ## Placing an instruction -/

theorem State.pc_storeBytes (s : State) (addr : Word) (bytes : List Byte) : (s.storeBytes addr bytes).pc = s.pc := by
  induction bytes generalizing s addr with
  | nil => rfl
  | cons v rest ih => exact ih (s.write8 addr v) (addr + 1)

/-- Three bytes stored one after the other are read back from the three addresses. -/
theorem State.read8_storeBytes_three (s : State) (addr : Word) (b0 b1 b2 : Byte) :
    let t := s.storeBytes addr [b0, b1, b2]
    t.read8 addr = b0 ∧ t.read8 (addr + 1) = b1 ∧ t.read8 (addr + 2) = b2 := by
  intro t
  have ht (a : Word) : t.read8 a =
      if a = addr + 1 + 1 then b2 else if a = addr + 1 then b1 else if a = addr then b0 else s.read8 a := by
    simp only [t, State.storeBytes, State.read8_write8]
  have h01 : addr ≠ addr + 1 := by bv_omega
  have h02 : addr ≠ addr + 1 + 1 := by bv_omega
  have h12 : addr + 1 ≠ addr + 1 + 1 := by bv_omega
  have h2 : addr + 2 = addr + 1 + 1 := by bv_omega
  refine ⟨?_, ?_, ?_⟩
  · rw [ht, if_neg h02, if_neg h01, if_pos rfl]
  · rw [ht, if_neg h12, if_pos rfl]
  · rw [ht, if_pos h2]

/-- A table word is three bytes (R110). -/
theorem tableBytes_eq (nbits w : Nat) : ∃ b0 b1 b2, tableBytes nbits w = [b0, b1, b2] := by
  by_cases h : nbits = 16 ∧ w % 2 ^ nbits / 256 = 0xCB
  · exact ⟨_, _, _, if_pos h⟩
  · exact ⟨_, _, _, if_neg h⟩

/-- The decoder reads from a table word what it reads from its three bytes. -/
theorem decode_tableBytes {nbits w : Nat} {i : Instr} (h : decodeTableWord nbits w = some i) :
    ∃ rest, decode (tableBytes nbits w) = .ok (i, rest) := by
  unfold decodeTableWord at h
  split at h
  · next j rest hdecode =>
    cases h
    exact ⟨rest, hdecode⟩
  · cases h

/-- Placing an instruction clears IME where an interrupt would be dispatched first (log entry 9). -/
theorem State.placeInstruction_not_dispatches (s : State) (bytes : List Byte) :
    (s.placeInstruction bytes).ime = false ∨ (s.placeInstruction bytes).pending = 0 := by
  by_cases hpend : (s.storeBytes s.pc bytes).pending = 0
  · exact .inr hpend
  · have hime : (s.placeInstruction bytes).ime =
        ((s.storeBytes s.pc bytes).ime && (s.storeBytes s.pc bytes).pending == 0) := rfl
    rw [hime, beq_false_of_ne hpend, Bool.and_false]
    exact .inl rfl

/-- Settles O19: the bytes are at the pc, the machine is Running, and nothing is dispatched, so O8 applies. -/
theorem fetchWordRunsNext : Obligations.FetchWordRunsNext := by
  intro s nbits w i hword r
  obtain ⟨rest, hdecode⟩ := decode_tableBytes hword
  obtain ⟨b0, b1, b2, hbytes⟩ := tableBytes_eq nbits w
  rw [hbytes] at hdecode
  obtain ⟨-, hread, -⟩ := decode_eq_ok [b1, b2] hdecode
  have hwf : i.wellFormed = true := by
    rw [← hread]
    exact wellFormed_decodeBytes b0 b1 b2
  have hr : r = s.placeInstruction [b0, b1, b2] := congrArg s.placeInstruction hbytes
  obtain ⟨h0, h1, h2⟩ := s.read8_storeBytes_three s.pc b0 b1 b2
  have hnone : r.ime = false ∨ r.pending = 0 := s.placeInstruction_not_dispatches _
  have hpc : r.pc = s.pc := s.pc_storeBytes s.pc _
  refine stepRunsDecodedInstruction r i rest rfl rfl hnone hwf ?_
  have hmem (addr : Word) : r.read8 addr = (s.storeBytes s.pc [b0, b1, b2]).read8 addr := by
    rw [hr]
    rfl
  rw [hpc, hmem, hmem, hmem, h0, h1, h2]
  exact hdecode

/-! ## The host's turn -/

section HostTurn

variable (s : State) {turn : HostTurn} {rest : List HostTurn}

theorem State.hostTurn_cons (h : s.hostInput = turn :: rest) :
    s.hostTurn = ({ s with hostInput := rest } : State).applyTurn turn := by
  simp only [State.hostTurn, h]

end HostTurn

/-- Settles O18: each kind of turn is one equation; what a collecting turn leaves of each byte is
`read8_collectInput`. -/
theorem hostTurnTouchesOnlyJoypad : Obligations.HostTurnTouchesOnlyJoypad := by
  intro s rest
  refine ⟨s.hostTurn_nil, s.hostTurn_cons, fun joyp raiseJoypad h => ?_⟩
  have hturn := s.hostTurn_cons h
  have hbyte (addr : Word) : s.hostTurn.read8 addr =
      (({ s with hostInput := rest } : State).collectInput joyp raiseJoypad).read8 addr := by
    rw [hturn]
    rfl
  refine ⟨?frame, ?joyp, ?ifByte, ?bytes⟩
  case frame =>
    rw [hturn]
    simp only [State.applyTurn]
    rw [State.collectInput_eq]
  case joyp =>
    rw [hbyte, State.read8_collectInput]
    rfl
  case ifByte =>
    rw [hbyte, State.read8_collectInput]
    rfl
  case bytes => exact s.agreeOnBytes_hostTurn

end Sys2Proof.Machine

/-! The clock after a step (R247, R248), the idle step (R243), and the invariant. -/

namespace Sys2Proof.Machine

/-! ## What the tick leaves -/

section VideoTick

variable (s : State) (n : Nat)

/-- A tick writes the video timing engine, the pixel buffer, memory and the render event (R270 to R276). -/
theorem State.videoTick_eq :
    s.videoTick n = { s with
      displayOn := (s.videoTick n).displayOn, internalClock := (s.videoTick n).internalClock,
      prevHorizontalClock := (s.videoTick n).prevHorizontalClock,
      prevVerticalClock := (s.videoTick n).prevVerticalClock, mem := (s.videoTick n).mem, fb := (s.videoTick n).fb,
      frameEvent := (s.videoTick n).frameEvent } := by
  cases hlcd : s.lcdEnabled with
  | true => rw [State.videoTick_of_lcdEnabled hlcd, State.displayOnTick_eq]
  | false =>
    rw [State.videoTick_of_not_lcdEnabled hlcd]
    cases hon : s.displayOn with
    | true => rw [State.displayOffTick_of_on hon]
    | false => rw [State.displayOffTick_of_off hon]

theorem State.agreeOnBytes_videoTick :
    agreeOnBytes [Config.ifAddr, Config.statAddr, Config.lyAddr] s (s.videoTick n) := by
  cases hlcd : s.lcdEnabled with
  | true =>
    rw [State.videoTick_of_lcdEnabled hlcd]
    exact s.agreeOnBytes_displayOnTick n
  | false =>
    rw [State.videoTick_of_not_lcdEnabled hlcd]
    exact fun addr _ => State.read8_congr s.displayOffTick_frame.1 addr

theorem State.lcdEnabled_videoTick : (s.videoTick n).lcdEnabled = s.lcdEnabled :=
  State.lcdEnabled_congr (s.agreeOnBytes_videoTick n _ (by decide))

/-- The tick records whether it found the display on (R33). -/
theorem State.displayOn_videoTick : (s.videoTick n).displayOn = s.lcdEnabled := by
  cases hlcd : s.lcdEnabled with
  | true =>
    rw [State.videoTick_of_lcdEnabled hlcd]
    exact (s.displayOnTick_showsPosition n).1
  | false =>
    rw [State.videoTick_of_not_lcdEnabled hlcd]
    exact s.displayOffTick_frame.2.2

end VideoTick

/-! ## What keeps memory and the pixel buffer canonical -/

section Canonical

variable {s : State} (n : Nat)

theorem State.wf_displayOnTick (h : Memory.wf s.mem = true) : Memory.wf (s.displayOnTick n).mem = true := by
  set clock := (s.internalClock + n) % Config.frameClocks
  set shown := ({ s with displayOn := true, internalClock := clock } : State).recordPosition (horizontalOf clock)
    (verticalOf clock)
  have hshown : Memory.wf shown.mem = true := State.wf_setFlag _ _ (State.wf_clearFlag _ _ (State.wf_write8 _ _ h))
  have hmem : (s.displayOnTick n).mem = (shown.raiseVBlank (verticalOf clock)).mem := State.mem_renderOnWrap _ _
  rw [hmem, State.raiseVBlank]
  split
  · exact State.wf_setFlag _ _ hshown
  · exact hshown

theorem State.wf_pixels_displayOnTick (h : FrameBuffer.wf s.fb = true) :
    FrameBuffer.wf (s.displayOnTick n).fb = true := by
  have hrender := s.render_displayOnTick n
  split at hrender
  · rw [(Prod.mk.inj hrender).1]
    exact FrameBuffer.wf_renderFrame _
  · rw [(Prod.mk.inj hrender).1]
    exact h

theorem State.wf_hostTurn (h : Memory.wf s.mem = true) : Memory.wf s.hostTurn.mem = true := by
  cases hinput : s.hostInput with
  | nil =>
    rw [s.hostTurn_nil hinput]
    exact h
  | cons turn rest =>
    rw [s.hostTurn_cons hinput]
    cases turn with
    | stop => exact h
    | collect joyp raiseJoypad => exact State.wf_collectInput _ joyp raiseJoypad h

end Canonical

/-! ## The clock -/

/-- Phase 3 counts the cost; the tick and the host's turn leave the counters (R240, R248). -/
theorem State.finishStep_counters (u : State) (dispatched : Bool) (n : Nat) :
    let t := u.finishStep dispatched n
    t.tStep = n ∧ t.mStep = n / 4 ∧ t.tTotal = u.tTotal + n ∧ t.mTotal = u.mTotal + n / 4 ∧ t.cyclesOut = some n := by
  intro t
  have hcost : n + dispatchCost dispatched = n := by rw [dispatchCost_eq_zero, Nat.add_zero]
  have ht : t = ((u.accumulate n).videoTick (n / Config.tPerM)).hostTurn := by
    simp only [t, State.finishStep, hcost]
  rw [ht, State.hostTurn_eq, State.videoTick_eq]
  exact ⟨rfl, rfl, rfl, rfl, rfl⟩

/-! ## Phases 1 and 2 -/

theorem State.fault_interruptCheck (s : State) : s.interruptCheck.fault = s.fault := by
  rw [State.interruptCheck, State.wake_eq]
  split
  · rfl
  · rfl

theorem State.wf_interruptCheck {s : State} (h : Memory.wf s.mem = true) : Memory.wf s.interruptCheck.mem = true := by
  rw [State.interruptCheck, State.wake_eq]
  split
  · exact State.wf_takeInterrupt _ h
  · exact h

theorem same_of_agreeOutsideCpu {s t : State} (h : agreeOutsideCpu s t) : SameOutside s t := by
  simpa only [Prod.mk.injEq] using h

theorem agreeOutsideCpu_trans {s t u : State} (hst : agreeOutsideCpu s t) (htu : agreeOutsideCpu t u) :
    agreeOutsideCpu s u :=
  agreeOutsideCpu_of_same ((same_of_agreeOutsideCpu htu).trans (same_of_agreeOutsideCpu hst))

/-- The fault record is there exactly in Faulted (R29). -/
abbrev State.faultRecorded (s : State) : Prop := s.fault.isSome = true ↔ s.runState = .faulted

/-- An instruction of a Running machine without a fault record leaves the record exactly if it enters Faulted. -/
theorem faultRecorded_of_exec {i : Instr} {s t : State} (hexec : exec i s = .next t) (hrunning : s.runState = .running)
    (hnone : s.fault = none) : t.faultRecorded := by
  have hclear {u : State} (hrun : u.runState ≠ .faulted) (hfault : u.fault = none) : u.faultRecorded := by
    rw [State.faultRecorded, hfault]
    exact ⟨nofun, fun h => absurd h hrun⟩
  obtain ⟨-, -, hrun, hfault, -⟩ := effect_of_exec hexec
  by_cases hundef : i ∈ undefinedRows.map Prod.snd
  · obtain ⟨op, hraise⟩ := exec_of_undefined hundef s
    cases hexec.symm.trans hraise
    exact ⟨fun _ => rfl, fun _ => rfl⟩
  · refine hclear ?_ ((hfault.resolve_right hundef).trans hnone)
    obtain hkept | rfl | ⟨pad, rfl⟩ | hin := hrun
    · rw [hkept, hrunning]
      decide
    · cases hexec
      exact nofun
    · cases hexec
      exact nofun
    · exact absurd hin hundef

/-- How a step ends: from a state `u` that phases 1 and 2 left, which is that of the step's beginning outside the CPU;
either at once, in Faulted, or with phases 3 and 4 for a cost that the tables give. -/
theorem step_ends {s t : State} (h : step s = .next t) :
    ∃ u : State, agreeOutsideCpu s.beginStep u ∧ (Memory.wf s.mem = true → Memory.wf u.mem = true) ∧
      (s.faultRecorded → u.faultRecorded) ∧
      ((u.runState = .faulted ∧ t = u.hostTurn) ∨ ∃ dispatched n, IsCost n ∧ t = u.finishStep dispatched n) := by
  obtain ⟨-, hactive, hcases⟩ := step_cases h
  set checked := s.beginStep.interruptCheck with hchecked
  have hout : agreeOutsideCpu s.beginStep checked := s.beginStep.agreeOutsideCpu_interruptCheck
  have hwf : Memory.wf s.mem = true → Memory.wf checked.mem = true := State.wf_interruptCheck (s := s.beginStep)
  have hnone (hrecord : s.faultRecorded) : checked.fault = none := by
    rw [hchecked, State.fault_interruptCheck]
    refine Option.not_isSome_iff_eq_none.mp fun hsome => ?_
    have hfaulted := hrecord.mp hsome
    rw [hfaulted] at hactive
    obtain hrun | hrun := hactive <;> cases hrun
  obtain ⟨hhalted, hend⟩ | ⟨hrunning, u, hexec, hend⟩ := hcases
  · refine ⟨checked, hout, hwf, fun hrecord => ?_, .inr ⟨_, _, by decide, hend⟩⟩
    rw [State.faultRecorded, hnone hrecord, hhalted]
    exact ⟨nofun, nofun⟩
  · obtain ⟨houtExec, hwfExec⟩ := exec_keepsMachine checked checked.fetch
    refine ⟨u, agreeOutsideCpu_trans hout (houtExec u hexec), fun hmem => hwfExec u hexec (hwf hmem),
      fun hrecord => faultRecorded_of_exec hexec hrunning (hnone hrecord), ?_⟩
    obtain hfaulted | ⟨hsafe, hend⟩ := hend
    · exact .inl hfaulted
    · refine .inr ⟨_, _, (effect_of_exec hexec).cost.resolve_right fun hundef => ?_, hend⟩
      obtain ⟨op, hraise⟩ := exec_of_undefined hundef checked
      cases hexec.symm.trans hraise
      exact hsafe rfl

/-- Settles O16: a step that is safe ends with phases 3 and 4, and phases 1 and 2 leave the totals. -/
theorem clockCountsEveryStep : Obligations.ClockCountsEveryStep := by
  intro s t hstep hsafe
  obtain ⟨u, hout, -, -, ⟨hfaulted, rfl⟩ | ⟨dispatched, n, ⟨hunits, hleast, hmost⟩, rfl⟩⟩ := step_ends hstep
  · refine absurd ?_ hsafe
    rw [State.hostTurn_eq]
    exact hfaulted
  · obtain ⟨-, -, htTotal, hmTotal, -⟩ := hout
    have htTotal : u.tTotal = s.tTotal := htTotal
    have hmTotal : u.mTotal = s.mTotal := hmTotal
    obtain ⟨htStep, hmStep, htSum, hmSum, hcycles⟩ := u.finishStep_counters dispatched n
    rw [htStep, hmStep, htSum, hmSum, htTotal, hmTotal]
    exact ⟨by omega, by omega, by omega, rfl, rfl, hcycles⟩

/-! ## The idle step -/

/-- Settles O13: phase 1 changes nothing and the host's turn is the identity, so the step is phase 3 and the tick. -/
theorem haltedIdleStepChargesFour : Obligations.HaltedIdleStepChargesFour := by
  intro s hhost hhalted hpend hinput
  have hcheck : s.beginStep.interruptCheck = s.beginStep :=
    State.interruptCheck_eq_self (s := s.beginStep) (.inr hpend) fun h => h.2 hpend
  have hstep : step s = .next (s.beginStep.finishStep false 4) := by
    have hidle := step_of_halted ⟨hhost, .inr hhalted⟩ (by rw [hcheck]; exact hhalted)
    rw [hcheck, State.not_dispatches (.inr hpend)] at hidle
    exact hidle
  set counted := s.beginStep.accumulate 4
  set ticked := counted.videoTick 1 with hticked
  have hshape : ticked = { counted with
      displayOn := ticked.displayOn, internalClock := ticked.internalClock,
      prevHorizontalClock := ticked.prevHorizontalClock, prevVerticalClock := ticked.prevVerticalClock,
      mem := ticked.mem, fb := ticked.fb, frameEvent := ticked.frameEvent } := counted.videoTick_eq 1
  have hend : s.beginStep.finishStep false 4 = ticked := State.hostTurn_nil ticked (by rw [hshape]; exact hinput)
  obtain ⟨htStep, hmStep, htTotal, hmTotal, hcycles⟩ := s.beginStep.finishStep_counters false 4
  rw [hend] at hstep htStep hmStep htTotal hmTotal hcycles
  refine ⟨ticked, hstep, ?runState, ?pc, ?sp, ?ime, ?f, fun r _ => ?regs, htStep, hmStep, htTotal, hmTotal, hcycles,
    fun addr haddr => ?bytes, fun (hlcd : counted.lcdEnabled = true) => ?on,
    fun (hlcd : counted.lcdEnabled = false) addr _ => ?off⟩
  case runState => rw [hshape]; exact hhalted
  case regs => rw [hshape]; cases r <;> rfl
  case bytes =>
    refine counted.agreeOnBytes_videoTick 1 addr ?_
    simpa [and_comm, and_assoc] using haddr
  case on =>
    rw [hticked, State.videoTick_of_lcdEnabled hlcd]
    exact (counted.displayOnTick_showsPosition 1).2.1
  case off =>
    rw [hticked, State.videoTick_of_not_lcdEnabled hlcd]
    exact State.read8_congr counted.displayOffTick_frame.1 addr
  all_goals rw [hshape]; rfl

/-! ## The invariant -/

/-- The invariant but for what LY and STAT show: what holds between the phases of a step too. -/
structure State.Steady (s : State) : Prop where
  memory : Memory.wf s.mem = true
  pixels : FrameBuffer.wf s.fb = true
  clockRange : s.internalClock < Config.frameClocks
  positionOn : s.displayOn = true →
    s.prevHorizontalClock = horizontalOf s.internalClock ∧ s.prevVerticalClock = verticalOf s.internalClock
  positionOff : s.displayOn = false →
    s.internalClock = 0 ∧ s.prevHorizontalClock = 0 ∧ s.prevVerticalClock = 0
  stepUnits : s.tStep = Config.tPerM * s.mStep
  totalUnits : s.tTotal = Config.tPerM * s.mTotal
  faultRecord : s.faultRecorded

namespace State.Steady

variable {s u : State}

theorem of_inv (h : s.Inv) : s.Steady :=
  ⟨h.memory, h.pixels, h.clockRange, h.positionOn, h.positionOff, h.stepUnits, h.totalUnits, h.faultRecord⟩

/-- A position that is shown completes the invariant. -/
theorem inv (h : s.Steady) (hshown : s.runState ≠ .faulted → s.displayOn = true → ∃ clock, s.showsPosition clock) :
    s.Inv where
  memory := h.memory
  pixels := h.pixels
  clockRange := h.clockRange
  positionOn := h.positionOn
  positionOff := h.positionOff
  stepUnits := h.stepUnits
  totalUnits := h.totalUnits
  faultRecord := h.faultRecord
  scanline hsafe hon := by
    obtain ⟨clock, -, -, -, hprevV, hscanline, -⟩ := hshown hsafe hon
    rw [hprevV, hscanline]
  mode hsafe hon := by
    obtain ⟨clock, -, -, hprevH, hprevV, -, hmode⟩ := hshown hsafe hon
    rw [hprevH, hprevV, hmode]

theorem beginStep (h : s.Steady) : s.beginStep.Steady :=
  ⟨h.memory, h.pixels, h.clockRange, h.positionOn, h.positionOff, h.stepUnits, h.totalUnits, h.faultRecord⟩

/-- Phases 1 and 2 leave everything outside the CPU. -/
theorem of_agreeOutsideCpu (h : s.Steady) (hout : agreeOutsideCpu s u) (hmem : Memory.wf u.mem = true)
    (hrecord : u.faultRecorded) : u.Steady := by
  obtain ⟨htStep, hmStep, htTotal, hmTotal, hclock, hprevH, hprevV, hon, hfb, -⟩ := hout
  refine ⟨hmem, ?_, ?_, ?_, ?_, ?_, ?_, hrecord⟩
  · rw [hfb]; exact h.pixels
  · rw [hclock]; exact h.clockRange
  · rw [hon, hclock, hprevH, hprevV]; exact h.positionOn
  · rw [hon, hclock, hprevH, hprevV]; exact h.positionOff
  · rw [htStep, hmStep]; exact h.stepUnits
  · rw [htTotal, hmTotal]; exact h.totalUnits

/-- Phase 3 counts whole machine cycles (R248). -/
theorem accumulate (h : s.Steady) {n : Nat} (hn : n % 4 = 0) : (s.accumulate n).Steady := by
  have hunits : n = 4 * (n / 4) := by omega
  have htotal : s.tTotal + n = 4 * (s.mTotal + n / 4) := by
    have hbefore : s.tTotal = 4 * s.mTotal := h.totalUnits
    omega
  exact ⟨h.memory, h.pixels, h.clockRange, h.positionOn, h.positionOff, hunits, htotal, h.faultRecord⟩

theorem displayOnTick (h : s.Steady) (n : Nat) : (s.displayOnTick n).Steady := by
  obtain ⟨hon, hclock, hprevH, hprevV, -, -⟩ := s.displayOnTick_showsPosition n
  have hshape := s.displayOnTick_eq n
  refine ⟨State.wf_displayOnTick n h.memory, State.wf_pixels_displayOnTick n h.pixels, ?range, ?on, ?off, ?step, ?total,
    ?fault⟩
  case range =>
    rw [hclock]
    exact Nat.mod_lt _ (by decide)
  case on =>
    rw [hclock]
    exact fun _ => ⟨hprevH, hprevV⟩
  case off => exact fun hoff => absurd hon (Bool.eq_false_iff.mp hoff)
  case step => rw [hshape]; exact h.stepUnits
  case total => rw [hshape]; exact h.totalUnits
  case fault => rw [hshape]; exact h.faultRecord

theorem displayOffTick (h : s.Steady) : s.displayOffTick.Steady := by
  cases hon : s.displayOn with
  | true =>
    rw [State.displayOffTick_of_on hon]
    exact ⟨h.memory, FrameBuffer.wf_nil, (by decide : 0 < Config.frameClocks), nofun, fun _ => ⟨rfl, rfl, rfl⟩,
      h.stepUnits, h.totalUnits, h.faultRecord⟩
  | false =>
    rw [State.displayOffTick_of_off hon]
    exact h

theorem videoTick (h : s.Steady) (n : Nat) : (s.videoTick n).Steady := by
  cases hlcd : s.lcdEnabled with
  | true =>
    rw [State.videoTick_of_lcdEnabled hlcd]
    exact h.displayOnTick n
  | false =>
    rw [State.videoTick_of_not_lcdEnabled hlcd]
    exact h.displayOffTick

theorem hostTurn (h : s.Steady) : s.hostTurn.Steady := by
  have hmem : Memory.wf s.hostTurn.mem = true := State.wf_hostTurn h.memory
  rw [State.hostTurn_eq]
  exact ⟨hmem, h.pixels, h.clockRange, h.positionOn, h.positionOff, h.stepUnits, h.totalUnits, h.faultRecord⟩

theorem finishStep (h : s.Steady) (dispatched : Bool) {n : Nat} (hn : n % 4 = 0) :
    (s.finishStep dispatched n).Steady := by
  have hcost : (n + dispatchCost dispatched) % 4 = 0 := by rw [dispatchCost_eq_zero]; exact hn
  exact ((h.accumulate hcost).videoTick _).hostTurn

end State.Steady

/-- Settles O24: with the display off, nothing counted and no fault record, every clause is about the zeros of reset. -/
theorem resetStateMeetsInvariant : Obligations.ResetStateMeetsInvariant where
  memory := Memory.wf_reset
  pixels := FrameBuffer.wf_nil
  clockRange := by decide
  positionOn := nofun
  positionOff _ := ⟨rfl, rfl, rfl⟩
  stepUnits := rfl
  totalUnits := rfl
  faultRecord := ⟨nofun, nofun⟩
  scanline _ := nofun
  mode _ := nofun

/-- After phases 3 and 4 the display is recorded as on only if LCDC says so; then the tick has shown the position. -/
theorem State.finishStep_shown (u : State) (dispatched : Bool) (n : Nat)
    (h : (u.finishStep dispatched n).displayOn = true) :
    ∃ clock, (u.finishStep dispatched n).showsPosition clock := by
  refine ⟨_, u.finishStep_showsPosition dispatched n ?_⟩
  set counted := u.accumulate (n + dispatchCost dispatched)
  set m := (n + dispatchCost dispatched) / Config.tPerM
  have hend : u.finishStep dispatched n = (counted.videoTick m).hostTurn := rfl
  rw [hend, State.hostTurn_eq] at h
  rw [hend, State.lcdEnabled_hostTurn, State.lcdEnabled_videoTick, ← State.displayOn_videoTick counted m]
  exact h

/-- Settles O25: every phase keeps what is steady, and a step that is safe ends with the position shown. -/
theorem stepKeepsInvariant : Obligations.StepKeepsInvariant := by
  intro s t hinv hstep
  have hsteady := State.Steady.of_inv hinv
  obtain ⟨u, hout, hmem, hrecord, hend⟩ := step_ends hstep
  have hu : u.Steady := hsteady.beginStep.of_agreeOutsideCpu hout (hmem hsteady.memory) (hrecord hsteady.faultRecord)
  obtain ⟨hfaulted, rfl⟩ | ⟨dispatched, n, hcost, rfl⟩ := hend
  · refine hu.hostTurn.inv fun hsafe => absurd ?_ hsafe
    rw [State.hostTurn_eq]
    exact hfaulted
  · exact (hu.finishStep dispatched hcost.1).inv fun _ hon => u.finishStep_shown dispatched n hon

end Sys2Proof.Machine

/-! The launch memory and the release of reset (R303, R305). -/

namespace Sys2Proof.Machine

/-- The loader writes the byte of index `k` at address `k`, if there is such an address (R305). -/
theorem Memory.read_loadedByte (m : List Host.Cell) (k : Nat) (v : Byte) {i : Nat} (hi : i < 65536) :
    Memory.read (if k < Config.addressSpaceSize then Memory.write m (BitVec.ofNat 16 k) v else m) (BitVec.ofNat 16 i) =
      if i = k then v else Memory.read m (BitVec.ofNat 16 i) := by
  split
  · next hk =>
    have hsame : BitVec.ofNat 16 i = BitVec.ofNat 16 k ↔ i = k := by
      rw [← BitVec.toNat_inj, BitVec.toNat_ofNat, BitVec.toNat_ofNat, Nat.mod_eq_of_lt hi, Nat.mod_eq_of_lt hk]
    rw [Memory.read_write]
    exact if_congr hsame rfl rfl
  · next hk => exact (if_neg fun hik : i = k => hk (hik ▸ hi)).symm

/-- Every byte after an image is loaded from address `k` on: the image's where it has one, else as before (R305). -/
theorem Memory.read_loadImageFrom (m : List Host.Cell) (k : Nat) (image : List Byte) {i : Nat} (hi : i < 65536) :
    Memory.read (loadImageFrom m k image) (BitVec.ofNat 16 i) =
      if k ≤ i ∧ i < k + image.length then image.getD (i - k) 0 else Memory.read m (BitVec.ofNat 16 i) := by
  induction image generalizing m k with
  | nil => exact (if_neg (by rw [List.length_nil]; omega)).symm
  | cons v rest ih =>
    rw [loadImageFrom, ih, Memory.read_loadedByte m k v hi, List.length_cons]
    by_cases hself : i = k
    · rw [if_neg (by omega), if_pos hself, if_pos (by omega), hself, Nat.sub_self, List.getD_cons_zero]
    · rw [if_neg hself]
      by_cases hrest : k + 1 ≤ i ∧ i < k + 1 + rest.length
      · have hindex : i - k = i - (k + 1) + 1 := by omega
        rw [if_pos hrest, if_pos (by omega), hindex, List.getD_cons_succ]
      · rw [if_neg hrest, if_neg (by omega)]

/-- The loader's check, with the last byte as a byte of the list (R305). -/
theorem bootImageAccepted_iff (boot : List Byte) :
    bootImageAccepted boot = true ↔ boot.length = 256 ∧ boot.getD 255 0 = 0x50 := by
  rw [bootImageAccepted, Bool.and_eq_true, beq_iff_eq, beq_iff_eq]
  refine and_congr_right fun hlen => ?_
  have hlen : boot.length = 256 := hlen
  rw [List.getLast?_eq_getElem?, hlen, List.getD_eq_getElem?_getD, List.getElem?_eq_getElem (by omega)]
  exact Option.some_inj

/-- Settles O27: the boot image is loaded over the cartridge, and the cartridge over memory that lists nothing. -/
theorem launchMemoryOverlaysBootImage : Obligations.LaunchMemoryOverlaysBootImage := by
  intro regs fb0 bases input cartridge boot i hi
  refine ⟨?memory, if_congr (bootImageAccepted_iff boot) rfl rfl⟩
  rw [launchMemory, Memory.read_loadImageFrom _ 0 boot hi, Memory.read_loadImageFrom _ 0 cartridge hi]
  simp only [Nat.zero_le, true_and, Nat.zero_add, Nat.sub_zero]
  rfl

end Sys2Proof.Machine

/-! Decimal addition (R171, R179) and the inverse pairs (R163, R190, R196). -/

namespace Sys2Proof.Machine

/-! ## Decimal addition -/

theorem toNat_bcd {n : Nat} (h : n < 100) : (bcd n).toNat = 16 * (n / 10) + n % 10 := by
  rw [bcd, BitVec.toNat_ofNat]
  exact Nat.mod_eq_of_lt (by omega)

/-- The packed sum of two numbers: its low digit overflows 9 exactly when the digits do, it exceeds 0x99 exactly when
the numbers reach 100, and with 6 and 0x60 added for these it is the packed sum modulo 100 (R179). -/
theorem decimal_correction {x y p q a : Nat} (hx : x < 100) (hy : y < 100) (hp : p = 16 * (x / 10) + x % 10)
    (hq : q = 16 * (y / 10) + y % 10) (ha : a = (p + q) % 256) :
    (p % 16 + q % 16 > 15 ∨ a % 16 > 9 ↔ x % 10 + y % 10 ≥ 10) ∧ (p + q > 255 ∨ a > 0x99 ↔ x + y ≥ 100) ∧
    (a + ((if x % 10 + y % 10 ≥ 10 then 6 else 0) + if x + y ≥ 100 then 0x60 else 0)) % 256 =
      16 * ((x + y) % 100 / 10) + (x + y) % 100 % 10 := by
  refine ⟨by omega, by omega, ?_⟩
  split <;> split <;> omega

theorem bcd_beq_zero {n : Nat} (h : n < 100) : (bcd n == 0) = decide (n = 0) := by
  rw [byte_beq_zero, toNat_bcd h, Bool.eq_iff_iff, beq_iff_eq, decide_eq_true_iff]
  omega

/-- Settles O49: ADD leaves the packed sum and its carries, and DAA corrects it. -/
theorem decimalAdditionIsExact : Obligations.DecimalAdditionIsExact := by
  intro s x y hx hy ha
  obtain ⟨t, hadd, -, -, -, hsum, ⟨-, hn, hh, hc⟩, -⟩ := (addAndAddWithCarry s).1.2 (bcd y)
  obtain ⟨u, hdaa, -, -, -, hvalue, ⟨hz, -, -, hcarry⟩, -⟩ := Alu8.decimalAdjust t
  rw [Nat.add_zero] at hsum hh hc
  have hp : s.a.toNat = 16 * (x / 10) + x % 10 := by rw [ha, toNat_bcd hx]
  obtain ⟨hlow, hhigh, hcorrected⟩ := decimal_correction hx hy hp (toNat_bcd hy) hsum
  have hlowFlag : (t.f.getLsbD 5 || (!t.f.getLsbD 6 && decide (t.a.toNat % 16 > 9))) =
      decide (x % 10 + y % 10 ≥ 10) := by
    rw [hn, hh, Bool.not_false, Bool.true_and, ← Bool.decide_or]
    exact decide_eq_decide.mpr hlow
  have hhighFlag : (t.f.getLsbD 4 || (!t.f.getLsbD 6 && decide (t.a.toNat > 0x99))) = decide (x + y ≥ 100) := by
    rw [hn, hc, Bool.not_false, Bool.true_and, ← Bool.decide_or]
    exact decide_eq_decide.mpr hhigh
  have hresult : u.a = bcd ((x + y) % 100) := by
    apply BitVec.eq_of_toNat_eq
    rw [toNat_bcd (Nat.mod_lt _ (by decide)), ← hcorrected]
    rw [hlowFlag, hhighFlag, hn, if_neg Bool.false_ne_true] at hvalue
    simp only [decide_eq_true_eq] at hvalue
    exact_mod_cast hvalue
  refine ⟨t, u, hadd, hdaa, hresult, hcarry.trans hhighFlag, ?_⟩
  rw [hz, hresult]
  exact bcd_beq_zero (Nat.mod_lt _ (by decide))

/-! ## Inverse pairs -/

section InversePairs

variable {s t u : State} {o : Operand8}

theorem hl_of_agreeOnRegs (h : agreeOnRegs [] s t) : t.hl = s.hl :=
  congrArg₂ joinBytes (h .h List.not_mem_nil) (h .l List.not_mem_nil)

/-- Two writes of an operand, the second of which restores its value, leave every register and every byte. -/
theorem restored_of_value (hvalue : u.readOperand o = s.readOperand o) (hregs : agreeOnRegs (operandRegs o) s t)
    (hbytes : agreeOnBytes (operandBytes s o) s t) (hregs' : agreeOnRegs (operandRegs o) t u)
    (hbytes' : agreeOnBytes (operandBytes t o) t u) : agreeOnRegs [] s u ∧ agreeOnBytes [] s u := by
  cases o with
  | reg r =>
    refine ⟨fun q _ => ?_, fun addr haddr => (hbytes' addr haddr).trans (hbytes addr haddr)⟩
    by_cases hq : q = r
    · rw [hq]
      exact hvalue
    · have hother : q ∉ [r] := List.not_mem_cons_of_ne_of_not_mem hq List.not_mem_nil
      exact (hregs' q hother).trans (hregs q hother)
  | atHL =>
    have hkept : agreeOnRegs [] s u := fun q hq => (hregs' q hq).trans (hregs q hq)
    refine ⟨hkept, fun addr _ => ?_⟩
    by_cases haddr : addr = s.hl
    · have hrestored : u.read8 u.hl = s.read8 s.hl := hvalue
      rw [haddr, ← hrestored, hl_of_agreeOnRegs hkept]
    · have hother : addr ∉ [s.hl] := List.not_mem_cons_of_ne_of_not_mem haddr List.not_mem_nil
      have hother' : addr ∉ [t.hl] := by
        rw [hl_of_agreeOnRegs hregs]
        exact hother
      exact (hbytes' addr hother').trans (hbytes addr hother)

end InversePairs

/-- The flags of DEC after INC, from the value before both (R162, R163). -/
theorem decFlags_of_succ (v : Byte) :
    (v + 1 == 0x01) = (v == 0) ∧ ((v + 1).toNat % 16 == 0) = (v.toNat % 16 == 15) := by
  constructor
  · rw [Bool.eq_iff_iff, beq_iff_eq, beq_iff_eq]
    bv_omega
  · have hsucc : (v + 1).toNat = (v.toNat + 1) % 256 := BitVec.toNat_add v 1
    rw [Bool.eq_iff_iff, beq_iff_eq, beq_iff_eq, hsucc]
    omega

theorem bool_toNat_injective : Function.Injective Bool.toNat := by decide

/-- A rotate right after a rotate left: the bit that went round comes back, and is the carry (R195, R196). -/
theorem rotate_restores {v w x : Byte} (hleft : w.toNat = 2 * v.toNat % 256 + (v.getLsbD 7).toNat)
    (hright : x.toNat = w.toNat / 2 + 128 * (w.getLsbD 0).toNat) : x = v ∧ w.getLsbD 0 = v.getLsbD 7 := by
  have hv := v.isLt
  have hdouble : 2 * v.toNat % 256 = 2 * (v.toNat % 128) := by omega
  have hbit7 := toNat_bit7 v
  have hbit0 : (w.getLsbD 0).toNat = w.toNat % 2 := by
    rw [← Nat.div_one w.toNat]
    exact Nat.toNat_testBit w.toNat 0
  have hround : (w.getLsbD 0).toNat = (v.getLsbD 7).toNat := by omega
  exact ⟨BitVec.eq_of_toNat_eq (by omega), bool_toNat_injective hround⟩

/-- Settles O56: the second instruction of each pair starts from the value that the first left. -/
theorem inversePairsRestoreValue : Obligations.InversePairsRestoreValue := by
  intro s o v
  refine ⟨?incDec, ?rotateA, ?rotate⟩
  case incDec =>
    obtain ⟨t, hinc, -, -, -, hpost, ⟨-, -, -, hcarry⟩, -, hregs, hbytes, -⟩ := (incAndDecByte s o).1
    obtain ⟨u, hdec, -, -, -, hpost', hflags, -, hregs', hbytes', -⟩ := (incAndDecByte t o).2
    have hvalue : u.readOperand o = v := by rw [hpost', hpost, BitVec.add_sub_cancel]
    obtain ⟨hkeptRegs, hkeptBytes⟩ := restored_of_value hvalue hregs hbytes hregs' hbytes'
    obtain ⟨hz, hh⟩ := decFlags_of_succ v
    rw [hpost, hz, hh, hcarry] at hflags
    exact ⟨t, u, hinc, hdec, hvalue, hkeptRegs, hkeptBytes, hflags⟩
  case rotateA =>
    obtain ⟨t, hrlca, -, -, -, hleft, -⟩ := (rotatesOfA s).1
    obtain ⟨u, hrrca, -, -, -, hright, ⟨-, -, -, hcarry⟩, -⟩ := (rotatesOfA t).2.1
    obtain ⟨hvalue, hbit⟩ := rotate_restores hleft hright
    exact ⟨t, u, hrlca, hrrca, hvalue, hcarry.trans hbit⟩
  case rotate =>
    obtain ⟨t, hrlc, -, -, -, hleft, -, -, hregs, hbytes, -⟩ := (extendedRotates s o).1
    obtain ⟨u, hrrc, -, -, -, hright, ⟨-, -, -, hcarry⟩, -, hregs', hbytes', -⟩ := (extendedRotates t o).2.1
    obtain ⟨hvalue, hbit⟩ := rotate_restores hleft hright
    obtain ⟨hkeptRegs, hkeptBytes⟩ := restored_of_value hvalue hregs hbytes hregs' hbytes'
    exact ⟨t, u, hrlc, hrrc, hvalue, hkeptRegs, hkeptBytes, hcarry.trans hbit⟩

end Sys2Proof.Machine
